-- ==== Sys2Proof/Word.lean ====
section
/-! DEFINITION. The two word types of the machine (spec 00_scope.md R7, R9): an 8-bit byte and a 16-bit word. -/

namespace Sys2Proof

/-- R9: "A byte is a value in 0–255". The registers A, X, Y, SP, every memory cell and every operand byte. -/
abbrev Byte := BitVec 8

/-- R9: "a word is a value in 0–65535". The program counter and every two-byte operand. -/
abbrev Word := BitVec 16

end Sys2Proof
end

