-- ==== Sys2Proof/Config.lean ====
section
/-! DEFINITION. What the spec leaves to the implementation (92_eei_decisions.md, "Parameters at a glance"), and the free values
(its `draw()`). The open parameters are ONE opaque constant `Config.params` without a body, so a claim about the machine
holds for every combination of the behaviours the spec lists. The value `refuse` of three of them gives the block no behaviour
(R302: "Refusals are outcomes of the model, not events of the hardware"): it stands in `Setting`, which a claim about the machine
may take as an argument (R8), and not in `Params` (assumption log 1). -/

namespace Sys2Proof

/-- D2, R291: what the 13 unnamed 65C02 slots do. -/
inductive UnnamedC02Slot where
  | halt  -- as an illegal opcode (R290)
  | c02   -- the documented 65C02 instruction
  deriving DecidableEq, Repr, Inhabited

/-- D7, R125: an effective-address sum past `0xFFFF`. -/
inductive AddrOverflow where
  | wrap16         -- the address is taken mod 2^16
  | busOutOfRange  -- the access is made with the unwrapped address (R54)
  deriving DecidableEq, Repr, Inhabited

/-- D8, R126: where the high byte of a zero-page pointer at `0xFF` is read. -/
inductive ZpPtrWrap where
  | wrapZp  -- `0x0000`
  | linear  -- `0x0100`
  deriving DecidableEq, Repr, Inhabited

/-- D12, R178: N, Z and V after decimal ADC and SBC. -/
inductive DecimalFlags where
  | draw        -- three free values
  | fromResult  -- `setNZ` of the result, V unchanged
  deriving DecidableEq, Repr, Inhabited

/-- D13, R177: decimal ADC and SBC on a byte that is not valid BCD. -/
inductive DecimalInvalid where
  | draw     -- A, C, N, Z and V are free values
  | formula  -- R173 and R176 with `dec` of every byte
  deriving DecidableEq, Repr, Inhabited

/-- D19, R313: what the hardware-interrupt entry adds to the pushed PC. -/
inductive IrqPushOffset where
  | zero
  | one
  deriving DecidableEq, Repr, Inhabited

/-- D26, R72: the event of a write to the display status register. -/
inductive Wr13Event where
  | none
  | warn
  | error
  deriving DecidableEq, Repr, Inhabited

/-- R8: the parameters the source leaves open, each with a behaviour. -/
structure Params where
  unnamedC02Slot : UnnamedC02Slot
  addrOverflow   : AddrOverflow
  zpPtrWrap      : ZpPtrWrap
  decimalFlags   : DecimalFlags
  decimalInvalid : DecimalInvalid
  irqPushOffset  : IrqPushOffset
  wr13Event      : Wr13Event
  deriving DecidableEq, Repr, Inhabited

/-- A parameter that may be left unsettled: `refuse`, or one of its behaviours. -/
inductive Open (α : Type) where
  | refuse
  | settled (v : α)
  deriving DecidableEq, Repr, Inhabited

/-- R8: the parameters as "taken by the model as arguments", with every value of 92_eei_decisions.md, "Parameters at a glance". -/
structure Setting where
  unnamedC02Slot : Open UnnamedC02Slot
  addrOverflow   : Open AddrOverflow
  zpPtrWrap      : Open ZpPtrWrap
  decimalFlags   : DecimalFlags
  decimalInvalid : DecimalInvalid
  irqPushOffset  : IrqPushOffset
  wr13Event      : Wr13Event
  deriving DecidableEq, Repr, Inhabited

/-- The parameters of this machine. No body: a claim holds for every choice. DESIGN CHOICE, assumption log 1. -/
opaque Config.params : Params

/-- R13 `draw()`, one bit: the free value number `k`. DESIGN CHOICE, assumption log 2. -/
opaque Config.drawBit : Nat → Bool

/-- R13 `draw()`, one byte: the free value number `k`. DESIGN CHOICE, assumption log 2. -/
opaque Config.drawByte : Nat → Byte

/-- What a memory address that nothing has written reads as. R40 leaves it open. DESIGN CHOICE, assumption log 3. -/
def Config.unlistedByte : Byte := 0x00

/-- `ResetPC` (R341), which the host supplies: the start of the BIOS image. DESIGN CHOICE, assumption log 4. -/
def Config.resetPC : Word := 0xFF00

end Sys2Proof
end

