-- ==== Sys2Proof/Syntax.lean ====
section
/-! DEFINITION. The instructions, whole (30_encoding.md R105–R108): one constructor for every row of spec/opcode_table.json that
names an operation or an unsettled slot (165 + 13), and `illegal op` for the 78 rows ILLEGAL, whose byte is its operand and
which all have the one meaning R290. A constructor's operand is the byte or word that follows the opcode (R101, R102). -/

namespace Sys2Proof

/-- The nine data-addressing modes with their operand (R127–R134): each resolves to an effective address. -/
inductive DataMode where
  | zp (b : Byte)     -- Zero Page
  | zpX (b : Byte)    -- Zero Page,X
  | zpY (b : Byte)    -- Zero Page,Y
  | abs (w : Word)    -- Absolute
  | absX (w : Word)   -- Absolute,X
  | absY (w : Word)   -- Absolute,Y
  | indX (b : Byte)   -- Indirect,X
  | indY (b : Byte)   -- Indirect,Y
  | indZp (b : Byte)  -- Indirect Zero-Page
  deriving DecidableEq, Repr

/-- The 15 addressing modes of R100 with their operand: nine data modes and six others. -/
inductive Operand where
  | implied              -- Implied
  | acc                  -- Accumulator
  | imm (v : Byte)       -- Immediate
  | data (m : DataMode)  -- the nine data modes (Absolute of JMP and JSR among them)
  | rel (d : Byte)       -- Relative
  | ind (w : Word)       -- Indirect
  | absIndX (w : Word)   -- Absolute Indexed Indirect
  deriving DecidableEq, Repr

/-- An operand that an instruction reads one byte from (R138): the immediate value, or the byte at an effective address. -/
inductive ReadOperand where
  | imm (v : Byte)
  | data (m : DataMode)
  deriving DecidableEq, Repr

/-- The operations of the opcode table: its 61 mnemonics. -/
inductive Op where
  | lda | ldx | ldy | sta | stx | sty | tax | tay | txa | tya | tsx | txs | adc | sbc | cmp | cpx | cpy | inc | dec
  | inx | iny | dex | dey | and | ora | eor | bit | asl | lsr | rol | ror | tsb | trb | bpl | bmi | bvc | bvs | bcc
  | bcs | bne | beq | bra | jmp | pha | php | pla | plp | jsr | rts | clc | sec | cli | sei | cld | sed | clv | nop
  | brk | rti | illegal | unsettled
  deriving DecidableEq, Repr

/-- Every instruction the decoder can give; the comment of a constructor is its row's opcode byte and syntax. -/
inductive Instr where
  -- Loads, stores and register transfers (41_load_store_transfer.md)
  | ldaIndX (b : Byte)          -- 0xA1 LDA ($nn,X)
  | ldaZp (b : Byte)            -- 0xA5 LDA $nn
  | ldaImm (v : Byte)           -- 0xA9 LDA #$nn
  | ldaAbs (w : Word)           -- 0xAD LDA $nnnn
  | ldaIndY (b : Byte)          -- 0xB1 LDA ($nn),Y
  | ldaIndZp (b : Byte)         -- 0xB2 LDA ($nn)
  | ldaZpX (b : Byte)           -- 0xB5 LDA $nn,X
  | ldaAbsY (w : Word)          -- 0xB9 LDA $nnnn,Y
  | ldaAbsX (w : Word)          -- 0xBD LDA $nnnn,X
  | ldxImm (v : Byte)           -- 0xA2 LDX #$nn
  | ldxZp (b : Byte)            -- 0xA6 LDX $nn
  | ldxAbs (w : Word)           -- 0xAE LDX $nnnn
  | ldxZpY (b : Byte)           -- 0xB6 LDX $nn,Y
  | ldxAbsY (w : Word)          -- 0xBE LDX $nnnn,Y
  | ldyImm (v : Byte)           -- 0xA0 LDY #$nn
  | ldyZp (b : Byte)            -- 0xA4 LDY $nn
  | ldyAbs (w : Word)           -- 0xAC LDY $nnnn
  | ldyZpX (b : Byte)           -- 0xB4 LDY $nn,X
  | ldyAbsX (w : Word)          -- 0xBC LDY $nnnn,X
  | staIndX (b : Byte)          -- 0x81 STA ($nn,X)
  | staZp (b : Byte)            -- 0x85 STA $nn
  | staAbs (w : Word)           -- 0x8D STA $nnnn
  | staIndY (b : Byte)          -- 0x91 STA ($nn),Y
  | staIndZp (b : Byte)         -- 0x92 STA ($nn)
  | staZpX (b : Byte)           -- 0x95 STA $nn,X
  | staAbsY (w : Word)          -- 0x99 STA $nnnn,Y
  | staAbsX (w : Word)          -- 0x9D STA $nnnn,X
  | stxZp (b : Byte)            -- 0x86 STX $nn
  | stxAbs (w : Word)           -- 0x8E STX $nnnn
  | stxZpY (b : Byte)           -- 0x96 STX $nn,Y
  | styZp (b : Byte)            -- 0x84 STY $nn
  | styAbs (w : Word)           -- 0x8C STY $nnnn
  | styZpX (b : Byte)           -- 0x94 STY $nn,X
  | tax                         -- 0xAA TAX
  | tay                         -- 0xA8 TAY
  | txa                         -- 0x8A TXA
  | tya                         -- 0x98 TYA
  | tsx                         -- 0xBA TSX
  | txs                         -- 0x9A TXS
  -- Arithmetic, compare, increment and decrement (42_arithmetic.md)
  | adcIndX (b : Byte)          -- 0x61 ADC ($nn,X)
  | adcZp (b : Byte)            -- 0x65 ADC $nn
  | adcImm (v : Byte)           -- 0x69 ADC #$nn
  | adcAbs (w : Word)           -- 0x6D ADC $nnnn
  | adcIndY (b : Byte)          -- 0x71 ADC ($nn),Y
  | adcIndZp (b : Byte)         -- 0x72 ADC ($nn)
  | adcZpX (b : Byte)           -- 0x75 ADC $nn,X
  | adcAbsY (w : Word)          -- 0x79 ADC $nnnn,Y
  | adcAbsX (w : Word)          -- 0x7D ADC $nnnn,X
  | sbcIndX (b : Byte)          -- 0xE1 SBC ($nn,X)
  | sbcZp (b : Byte)            -- 0xE5 SBC $nn
  | sbcImm (v : Byte)           -- 0xE9 SBC #$nn
  | sbcAbs (w : Word)           -- 0xED SBC $nnnn
  | sbcIndY (b : Byte)          -- 0xF1 SBC ($nn),Y
  | sbcIndZp (b : Byte)         -- 0xF2 SBC ($nn)
  | sbcZpX (b : Byte)           -- 0xF5 SBC $nn,X
  | sbcAbsY (w : Word)          -- 0xF9 SBC $nnnn,Y
  | sbcAbsX (w : Word)          -- 0xFD SBC $nnnn,X
  | cmpIndX (b : Byte)          -- 0xC1 CMP ($nn,X)
  | cmpZp (b : Byte)            -- 0xC5 CMP $nn
  | cmpImm (v : Byte)           -- 0xC9 CMP #$nn
  | cmpAbs (w : Word)           -- 0xCD CMP $nnnn
  | cmpIndY (b : Byte)          -- 0xD1 CMP ($nn),Y
  | cmpIndZp (b : Byte)         -- 0xD2 CMP ($nn)
  | cmpZpX (b : Byte)           -- 0xD5 CMP $nn,X
  | cmpAbsY (w : Word)          -- 0xD9 CMP $nnnn,Y
  | cmpAbsX (w : Word)          -- 0xDD CMP $nnnn,X
  | cpxImm (v : Byte)           -- 0xE0 CPX #$nn
  | cpxZp (b : Byte)            -- 0xE4 CPX $nn
  | cpxAbs (w : Word)           -- 0xEC CPX $nnnn
  | cpyImm (v : Byte)           -- 0xC0 CPY #$nn
  | cpyZp (b : Byte)            -- 0xC4 CPY $nn
  | cpyAbs (w : Word)           -- 0xCC CPY $nnnn
  | incZp (b : Byte)            -- 0xE6 INC $nn
  | incAbs (w : Word)           -- 0xEE INC $nnnn
  | incZpX (b : Byte)           -- 0xF6 INC $nn,X
  | incAbsX (w : Word)          -- 0xFE INC $nnnn,X
  | decZp (b : Byte)            -- 0xC6 DEC $nn
  | decAbs (w : Word)           -- 0xCE DEC $nnnn
  | decZpX (b : Byte)           -- 0xD6 DEC $nn,X
  | decAbsX (w : Word)          -- 0xDE DEC $nnnn,X
  | inx                         -- 0xE8 INX
  | iny                         -- 0xC8 INY
  | dex                         -- 0xCA DEX
  | dey                         -- 0x88 DEY
  -- Logical, shift, rotate and bit-test (43_logic_shift_bit.md)
  | andIndX (b : Byte)          -- 0x21 AND ($nn,X)
  | andZp (b : Byte)            -- 0x25 AND $nn
  | andImm (v : Byte)           -- 0x29 AND #$nn
  | andAbs (w : Word)           -- 0x2D AND $nnnn
  | andIndY (b : Byte)          -- 0x31 AND ($nn),Y
  | andIndZp (b : Byte)         -- 0x32 AND ($nn)
  | andZpX (b : Byte)           -- 0x35 AND $nn,X
  | andAbsY (w : Word)          -- 0x39 AND $nnnn,Y
  | andAbsX (w : Word)          -- 0x3D AND $nnnn,X
  | oraIndX (b : Byte)          -- 0x01 ORA ($nn,X)
  | oraZp (b : Byte)            -- 0x05 ORA $nn
  | oraImm (v : Byte)           -- 0x09 ORA #$nn
  | oraAbs (w : Word)           -- 0x0D ORA $nnnn
  | oraIndY (b : Byte)          -- 0x11 ORA ($nn),Y
  | oraIndZp (b : Byte)         -- 0x12 ORA ($nn)
  | oraZpX (b : Byte)           -- 0x15 ORA $nn,X
  | oraAbsY (w : Word)          -- 0x19 ORA $nnnn,Y
  | oraAbsX (w : Word)          -- 0x1D ORA $nnnn,X
  | eorIndX (b : Byte)          -- 0x41 EOR ($nn,X)
  | eorZp (b : Byte)            -- 0x45 EOR $nn
  | eorImm (v : Byte)           -- 0x49 EOR #$nn
  | eorAbs (w : Word)           -- 0x4D EOR $nnnn
  | eorIndY (b : Byte)          -- 0x51 EOR ($nn),Y
  | eorIndZp (b : Byte)         -- 0x52 EOR ($nn)
  | eorZpX (b : Byte)           -- 0x55 EOR $nn,X
  | eorAbsY (w : Word)          -- 0x59 EOR $nnnn,Y
  | eorAbsX (w : Word)          -- 0x5D EOR $nnnn,X
  | bitZp (b : Byte)            -- 0x24 BIT $nn
  | bitAbs (w : Word)           -- 0x2C BIT $nnnn
  | aslZp (b : Byte)            -- 0x06 ASL $nn
  | aslA                        -- 0x0A ASL A
  | aslAbs (w : Word)           -- 0x0E ASL $nnnn
  | aslZpX (b : Byte)           -- 0x16 ASL $nn,X
  | aslAbsX (w : Word)          -- 0x1E ASL $nnnn,X
  | lsrZp (b : Byte)            -- 0x46 LSR $nn
  | lsrA                        -- 0x4A LSR A
  | lsrAbs (w : Word)           -- 0x4E LSR $nnnn
  | lsrZpX (b : Byte)           -- 0x56 LSR $nn,X
  | lsrAbsX (w : Word)          -- 0x5E LSR $nnnn,X
  | rolZp (b : Byte)            -- 0x26 ROL $nn
  | rolA                        -- 0x2A ROL A
  | rolAbs (w : Word)           -- 0x2E ROL $nnnn
  | rolZpX (b : Byte)           -- 0x36 ROL $nn,X
  | rolAbsX (w : Word)          -- 0x3E ROL $nnnn,X
  | rorZp (b : Byte)            -- 0x66 ROR $nn
  | rorA                        -- 0x6A ROR A
  | rorAbs (w : Word)           -- 0x6E ROR $nnnn
  | rorZpX (b : Byte)           -- 0x76 ROR $nn,X
  | rorAbsX (w : Word)          -- 0x7E ROR $nnnn,X
  | tsbZp (b : Byte)            -- 0x04 TSB $nn
  | tsbAbs (w : Word)           -- 0x0C TSB $nnnn
  | trbZp (b : Byte)            -- 0x14 TRB $nn
  | trbAbs (w : Word)           -- 0x1C TRB $nnnn
  -- Branches and jumps (44_branch_jump.md)
  | bpl (d : Byte)              -- 0x10 BPL label
  | bmi (d : Byte)              -- 0x30 BMI label
  | bvc (d : Byte)              -- 0x50 BVC label
  | bvs (d : Byte)              -- 0x70 BVS label
  | bcc (d : Byte)              -- 0x90 BCC label
  | bcs (d : Byte)              -- 0xB0 BCS label
  | bne (d : Byte)              -- 0xD0 BNE label
  | beq (d : Byte)              -- 0xF0 BEQ label
  | bra (d : Byte)              -- 0x80 BRA label
  | jmpAbs (w : Word)           -- 0x4C JMP $nnnn
  | jmpInd (w : Word)           -- 0x6C JMP ($nnnn)
  | jmpAbsIndX (w : Word)       -- 0x7C JMP ($nnnn,X)
  -- Stack and subroutine (45_stack_subroutine.md)
  | pha                         -- 0x48 PHA
  | php                         -- 0x08 PHP
  | pla                         -- 0x68 PLA
  | plp                         -- 0x28 PLP
  | jsr (w : Word)              -- 0x20 JSR $nnnn
  | rts                         -- 0x60 RTS
  -- Flags, BRK and RTI (46_flags_system.md)
  | clc                         -- 0x18 CLC
  | sec                         -- 0x38 SEC
  | cli                         -- 0x58 CLI
  | sei                         -- 0x78 SEI
  | cld                         -- 0xD8 CLD
  | sed                         -- 0xF8 SED
  | clv                         -- 0xB8 CLV
  | nop                         -- 0xEA NOP
  | brk                         -- 0x00 BRK
  | rti                         -- 0x40 RTI
  -- The 78 illegal-halt slots (R290, 46_flags_system.md)
  | illegal (op : Byte)         -- the illegal byte itself
  -- The 13 unsettled 65C02 slots (R291, 46_flags_system.md); names of the documented instructions
  | unsettledIncA               -- 0x1A INC A
  | unsettledBitZpX (b : Byte)  -- 0x34 BIT zp,X
  | unsettledDecA               -- 0x3A DEC A
  | unsettledBitAbsX (w : Word) -- 0x3C BIT abs,X
  | unsettledPhy                -- 0x5A PHY
  | unsettledStzZp (b : Byte)   -- 0x64 STZ zp
  | unsettledStzZpX (b : Byte)  -- 0x74 STZ zp,X
  | unsettledPly                -- 0x7A PLY
  | unsettledBitImm (v : Byte)  -- 0x89 BIT #
  | unsettledStzAbs (w : Word)  -- 0x9C STZ abs
  | unsettledStzAbsX (w : Word) -- 0x9E STZ abs,X
  | unsettledPhx                -- 0xDA PHX
  | unsettledPlx                -- 0xFA PLX
  deriving DecidableEq, Repr

end Sys2Proof
end

