-- ==== Sys2Proof/WellFormed.lean ====
section
/-! DEFINITION. Well-formed instructions. Every byte or word is a legal operand (R102 scales and restricts none), so the one
check is on `illegal`: its byte is one of the 78 illegal-halt slots of 30_encoding.md R108. -/

namespace Sys2Proof

/-- R108: `0x02` (the source's own) and the 77 slots that halt by decision D3. -/
def illegalSlots : List Byte :=
  [0x02] ++
  [0x03, 0x07, 0x0B, 0x0F, 0x13, 0x17, 0x1B, 0x1F, 0x22, 0x23, 0x27, 0x2B, 0x2F, 0x33, 0x37, 0x3B] ++
  [0x3F, 0x42, 0x43, 0x44, 0x47, 0x4B, 0x4F, 0x53, 0x54, 0x57, 0x5B, 0x5C, 0x5F, 0x62, 0x63, 0x67] ++
  [0x6B, 0x6F, 0x73, 0x77, 0x7B, 0x7F, 0x82, 0x83, 0x87, 0x8B, 0x8F, 0x93, 0x97, 0x9B, 0x9F, 0xA3] ++
  [0xA7, 0xAB, 0xAF, 0xB3, 0xB7, 0xBB, 0xBF, 0xC2, 0xC3, 0xC7, 0xCB, 0xCF, 0xD3, 0xD4, 0xD7, 0xDB] ++
  [0xDC, 0xDF, 0xE2, 0xE3, 0xE7, 0xEB, 0xEF, 0xF3, 0xF4, 0xF7, 0xFB, 0xFC, 0xFF]

/-- An instruction as the decoder can give it (R105–R108). -/
def Instr.wf : Instr → Bool
  | .illegal op => illegalSlots.contains op
  | _ => true

end Sys2Proof
end

