-- ==== Sys2Proof/Decode.lean ====
section
/-! DEFINITION. Decoding (30_encoding.md): the opcode table of R105 and R106 as sixteen rows, a decoder total on any bytes that
rejects by name, and after it the encoder, written from the same map. -/

namespace Sys2Proof

/-- R102: `w = (b2 << 8) | b1` (R83: little-endian). -/
def wordOf (hi lo : Byte) : Word := hi.setWidth 16 <<< 8 ||| lo.setWidth 16

/-- The low byte of a word. -/
def lowByte (w : Word) : Byte := w.setWidth 8

/-- The high byte of a word. -/
def highByte (w : Word) : Byte := (w >>> 8).setWidth 8

/-- Row 0x of the opcode map (R106); `lo` is the low hex digit of the opcode `op`. -/
def decodeRow0 (lo : Nat) (op b : Byte) (w : Word) : Instr :=
  match lo with
  | 0x0 => .brk
  | 0x1 => .oraIndX b
  | 0x4 => .tsbZp b
  | 0x5 => .oraZp b
  | 0x6 => .aslZp b
  | 0x8 => .php
  | 0x9 => .oraImm b
  | 0xA => .aslA
  | 0xC => .tsbAbs w
  | 0xD => .oraAbs w
  | 0xE => .aslAbs w
  | _ => .illegal op

/-- Row 1x of the opcode map (R106); `lo` is the low hex digit of the opcode `op`. -/
def decodeRow1 (lo : Nat) (op b : Byte) (w : Word) : Instr :=
  match lo with
  | 0x0 => .bpl b
  | 0x1 => .oraIndY b
  | 0x2 => .oraIndZp b
  | 0x4 => .trbZp b
  | 0x5 => .oraZpX b
  | 0x6 => .aslZpX b
  | 0x8 => .clc
  | 0x9 => .oraAbsY w
  | 0xA => .unsettledIncA
  | 0xC => .trbAbs w
  | 0xD => .oraAbsX w
  | 0xE => .aslAbsX w
  | _ => .illegal op

/-- Row 2x of the opcode map (R106); `lo` is the low hex digit of the opcode `op`. -/
def decodeRow2 (lo : Nat) (op b : Byte) (w : Word) : Instr :=
  match lo with
  | 0x0 => .jsr w
  | 0x1 => .andIndX b
  | 0x4 => .bitZp b
  | 0x5 => .andZp b
  | 0x6 => .rolZp b
  | 0x8 => .plp
  | 0x9 => .andImm b
  | 0xA => .rolA
  | 0xC => .bitAbs w
  | 0xD => .andAbs w
  | 0xE => .rolAbs w
  | _ => .illegal op

/-- Row 3x of the opcode map (R106); `lo` is the low hex digit of the opcode `op`. -/
def decodeRow3 (lo : Nat) (op b : Byte) (w : Word) : Instr :=
  match lo with
  | 0x0 => .bmi b
  | 0x1 => .andIndY b
  | 0x2 => .andIndZp b
  | 0x4 => .unsettledBitZpX b
  | 0x5 => .andZpX b
  | 0x6 => .rolZpX b
  | 0x8 => .sec
  | 0x9 => .andAbsY w
  | 0xA => .unsettledDecA
  | 0xC => .unsettledBitAbsX w
  | 0xD => .andAbsX w
  | 0xE => .rolAbsX w
  | _ => .illegal op

/-- Row 4x of the opcode map (R106); `lo` is the low hex digit of the opcode `op`. -/
def decodeRow4 (lo : Nat) (op b : Byte) (w : Word) : Instr :=
  match lo with
  | 0x0 => .rti
  | 0x1 => .eorIndX b
  | 0x5 => .eorZp b
  | 0x6 => .lsrZp b
  | 0x8 => .pha
  | 0x9 => .eorImm b
  | 0xA => .lsrA
  | 0xC => .jmpAbs w
  | 0xD => .eorAbs w
  | 0xE => .lsrAbs w
  | _ => .illegal op

/-- Row 5x of the opcode map (R106); `lo` is the low hex digit of the opcode `op`. -/
def decodeRow5 (lo : Nat) (op b : Byte) (w : Word) : Instr :=
  match lo with
  | 0x0 => .bvc b
  | 0x1 => .eorIndY b
  | 0x2 => .eorIndZp b
  | 0x5 => .eorZpX b
  | 0x6 => .lsrZpX b
  | 0x8 => .cli
  | 0x9 => .eorAbsY w
  | 0xA => .unsettledPhy
  | 0xD => .eorAbsX w
  | 0xE => .lsrAbsX w
  | _ => .illegal op

/-- Row 6x of the opcode map (R106); `lo` is the low hex digit of the opcode `op`. -/
def decodeRow6 (lo : Nat) (op b : Byte) (w : Word) : Instr :=
  match lo with
  | 0x0 => .rts
  | 0x1 => .adcIndX b
  | 0x4 => .unsettledStzZp b
  | 0x5 => .adcZp b
  | 0x6 => .rorZp b
  | 0x8 => .pla
  | 0x9 => .adcImm b
  | 0xA => .rorA
  | 0xC => .jmpInd w
  | 0xD => .adcAbs w
  | 0xE => .rorAbs w
  | _ => .illegal op

/-- Row 7x of the opcode map (R106); `lo` is the low hex digit of the opcode `op`. -/
def decodeRow7 (lo : Nat) (op b : Byte) (w : Word) : Instr :=
  match lo with
  | 0x0 => .bvs b
  | 0x1 => .adcIndY b
  | 0x2 => .adcIndZp b
  | 0x4 => .unsettledStzZpX b
  | 0x5 => .adcZpX b
  | 0x6 => .rorZpX b
  | 0x8 => .sei
  | 0x9 => .adcAbsY w
  | 0xA => .unsettledPly
  | 0xC => .jmpAbsIndX w
  | 0xD => .adcAbsX w
  | 0xE => .rorAbsX w
  | _ => .illegal op

/-- Row 8x of the opcode map (R106); `lo` is the low hex digit of the opcode `op`. -/
def decodeRow8 (lo : Nat) (op b : Byte) (w : Word) : Instr :=
  match lo with
  | 0x0 => .bra b
  | 0x1 => .staIndX b
  | 0x4 => .styZp b
  | 0x5 => .staZp b
  | 0x6 => .stxZp b
  | 0x8 => .dey
  | 0x9 => .unsettledBitImm b
  | 0xA => .txa
  | 0xC => .styAbs w
  | 0xD => .staAbs w
  | 0xE => .stxAbs w
  | _ => .illegal op

/-- Row 9x of the opcode map (R106); `lo` is the low hex digit of the opcode `op`. -/
def decodeRow9 (lo : Nat) (op b : Byte) (w : Word) : Instr :=
  match lo with
  | 0x0 => .bcc b
  | 0x1 => .staIndY b
  | 0x2 => .staIndZp b
  | 0x4 => .styZpX b
  | 0x5 => .staZpX b
  | 0x6 => .stxZpY b
  | 0x8 => .tya
  | 0x9 => .staAbsY w
  | 0xA => .txs
  | 0xC => .unsettledStzAbs w
  | 0xD => .staAbsX w
  | 0xE => .unsettledStzAbsX w
  | _ => .illegal op

/-- Row Ax of the opcode map (R106); `lo` is the low hex digit of the opcode `op`. -/
def decodeRowA (lo : Nat) (op b : Byte) (w : Word) : Instr :=
  match lo with
  | 0x0 => .ldyImm b
  | 0x1 => .ldaIndX b
  | 0x2 => .ldxImm b
  | 0x4 => .ldyZp b
  | 0x5 => .ldaZp b
  | 0x6 => .ldxZp b
  | 0x8 => .tay
  | 0x9 => .ldaImm b
  | 0xA => .tax
  | 0xC => .ldyAbs w
  | 0xD => .ldaAbs w
  | 0xE => .ldxAbs w
  | _ => .illegal op

/-- Row Bx of the opcode map (R106); `lo` is the low hex digit of the opcode `op`. -/
def decodeRowB (lo : Nat) (op b : Byte) (w : Word) : Instr :=
  match lo with
  | 0x0 => .bcs b
  | 0x1 => .ldaIndY b
  | 0x2 => .ldaIndZp b
  | 0x4 => .ldyZpX b
  | 0x5 => .ldaZpX b
  | 0x6 => .ldxZpY b
  | 0x8 => .clv
  | 0x9 => .ldaAbsY w
  | 0xA => .tsx
  | 0xC => .ldyAbsX w
  | 0xD => .ldaAbsX w
  | 0xE => .ldxAbsY w
  | _ => .illegal op

/-- Row Cx of the opcode map (R106); `lo` is the low hex digit of the opcode `op`. -/
def decodeRowC (lo : Nat) (op b : Byte) (w : Word) : Instr :=
  match lo with
  | 0x0 => .cpyImm b
  | 0x1 => .cmpIndX b
  | 0x4 => .cpyZp b
  | 0x5 => .cmpZp b
  | 0x6 => .decZp b
  | 0x8 => .iny
  | 0x9 => .cmpImm b
  | 0xA => .dex
  | 0xC => .cpyAbs w
  | 0xD => .cmpAbs w
  | 0xE => .decAbs w
  | _ => .illegal op

/-- Row Dx of the opcode map (R106); `lo` is the low hex digit of the opcode `op`. -/
def decodeRowD (lo : Nat) (op b : Byte) (w : Word) : Instr :=
  match lo with
  | 0x0 => .bne b
  | 0x1 => .cmpIndY b
  | 0x2 => .cmpIndZp b
  | 0x5 => .cmpZpX b
  | 0x6 => .decZpX b
  | 0x8 => .cld
  | 0x9 => .cmpAbsY w
  | 0xA => .unsettledPhx
  | 0xD => .cmpAbsX w
  | 0xE => .decAbsX w
  | _ => .illegal op

/-- Row Ex of the opcode map (R106); `lo` is the low hex digit of the opcode `op`. -/
def decodeRowE (lo : Nat) (op b : Byte) (w : Word) : Instr :=
  match lo with
  | 0x0 => .cpxImm b
  | 0x1 => .sbcIndX b
  | 0x4 => .cpxZp b
  | 0x5 => .sbcZp b
  | 0x6 => .incZp b
  | 0x8 => .inx
  | 0x9 => .sbcImm b
  | 0xA => .nop
  | 0xC => .cpxAbs w
  | 0xD => .sbcAbs w
  | 0xE => .incAbs w
  | _ => .illegal op

/-- Row Fx of the opcode map (R106); `lo` is the low hex digit of the opcode `op`. -/
def decodeRowF (lo : Nat) (op b : Byte) (w : Word) : Instr :=
  match lo with
  | 0x0 => .beq b
  | 0x1 => .sbcIndY b
  | 0x2 => .sbcIndZp b
  | 0x5 => .sbcZpX b
  | 0x6 => .incZpX b
  | 0x8 => .sed
  | 0x9 => .sbcAbsY w
  | 0xA => .unsettledPlx
  | 0xD => .sbcAbsX w
  | 0xE => .incAbsX w
  | _ => .illegal op

/-- R105, R110: the instruction of an opcode byte and the two bytes after it, of which it uses those its mode takes. The whole
byte is decoded by table lookup. -/
def decodeOpcode (op b1 b2 : Byte) : Instr :=
  let lo := op.toNat % 16
  let w := wordOf b2 b1
  match op.toNat / 16 with
  | 0x0 => decodeRow0 lo op b1 w
  | 0x1 => decodeRow1 lo op b1 w
  | 0x2 => decodeRow2 lo op b1 w
  | 0x3 => decodeRow3 lo op b1 w
  | 0x4 => decodeRow4 lo op b1 w
  | 0x5 => decodeRow5 lo op b1 w
  | 0x6 => decodeRow6 lo op b1 w
  | 0x7 => decodeRow7 lo op b1 w
  | 0x8 => decodeRow8 lo op b1 w
  | 0x9 => decodeRow9 lo op b1 w
  | 0xA => decodeRowA lo op b1 w
  | 0xB => decodeRowB lo op b1 w
  | 0xC => decodeRowC lo op b1 w
  | 0xD => decodeRowD lo op b1 w
  | 0xE => decodeRowE lo op b1 w
  | _ => decodeRowF lo op b1 w

/-- The operation of an instruction: its row's mnemonic. -/
def Instr.op : Instr → Op
  | .ldaIndX _ => .lda
  | .ldaZp _ => .lda
  | .ldaImm _ => .lda
  | .ldaAbs _ => .lda
  | .ldaIndY _ => .lda
  | .ldaIndZp _ => .lda
  | .ldaZpX _ => .lda
  | .ldaAbsY _ => .lda
  | .ldaAbsX _ => .lda
  | .ldxImm _ => .ldx
  | .ldxZp _ => .ldx
  | .ldxAbs _ => .ldx
  | .ldxZpY _ => .ldx
  | .ldxAbsY _ => .ldx
  | .ldyImm _ => .ldy
  | .ldyZp _ => .ldy
  | .ldyAbs _ => .ldy
  | .ldyZpX _ => .ldy
  | .ldyAbsX _ => .ldy
  | .staIndX _ => .sta
  | .staZp _ => .sta
  | .staAbs _ => .sta
  | .staIndY _ => .sta
  | .staIndZp _ => .sta
  | .staZpX _ => .sta
  | .staAbsY _ => .sta
  | .staAbsX _ => .sta
  | .stxZp _ => .stx
  | .stxAbs _ => .stx
  | .stxZpY _ => .stx
  | .styZp _ => .sty
  | .styAbs _ => .sty
  | .styZpX _ => .sty
  | .tax => .tax
  | .tay => .tay
  | .txa => .txa
  | .tya => .tya
  | .tsx => .tsx
  | .txs => .txs
  | .adcIndX _ => .adc
  | .adcZp _ => .adc
  | .adcImm _ => .adc
  | .adcAbs _ => .adc
  | .adcIndY _ => .adc
  | .adcIndZp _ => .adc
  | .adcZpX _ => .adc
  | .adcAbsY _ => .adc
  | .adcAbsX _ => .adc
  | .sbcIndX _ => .sbc
  | .sbcZp _ => .sbc
  | .sbcImm _ => .sbc
  | .sbcAbs _ => .sbc
  | .sbcIndY _ => .sbc
  | .sbcIndZp _ => .sbc
  | .sbcZpX _ => .sbc
  | .sbcAbsY _ => .sbc
  | .sbcAbsX _ => .sbc
  | .cmpIndX _ => .cmp
  | .cmpZp _ => .cmp
  | .cmpImm _ => .cmp
  | .cmpAbs _ => .cmp
  | .cmpIndY _ => .cmp
  | .cmpIndZp _ => .cmp
  | .cmpZpX _ => .cmp
  | .cmpAbsY _ => .cmp
  | .cmpAbsX _ => .cmp
  | .cpxImm _ => .cpx
  | .cpxZp _ => .cpx
  | .cpxAbs _ => .cpx
  | .cpyImm _ => .cpy
  | .cpyZp _ => .cpy
  | .cpyAbs _ => .cpy
  | .incZp _ => .inc
  | .incAbs _ => .inc
  | .incZpX _ => .inc
  | .incAbsX _ => .inc
  | .decZp _ => .dec
  | .decAbs _ => .dec
  | .decZpX _ => .dec
  | .decAbsX _ => .dec
  | .inx => .inx
  | .iny => .iny
  | .dex => .dex
  | .dey => .dey
  | .andIndX _ => .and
  | .andZp _ => .and
  | .andImm _ => .and
  | .andAbs _ => .and
  | .andIndY _ => .and
  | .andIndZp _ => .and
  | .andZpX _ => .and
  | .andAbsY _ => .and
  | .andAbsX _ => .and
  | .oraIndX _ => .ora
  | .oraZp _ => .ora
  | .oraImm _ => .ora
  | .oraAbs _ => .ora
  | .oraIndY _ => .ora
  | .oraIndZp _ => .ora
  | .oraZpX _ => .ora
  | .oraAbsY _ => .ora
  | .oraAbsX _ => .ora
  | .eorIndX _ => .eor
  | .eorZp _ => .eor
  | .eorImm _ => .eor
  | .eorAbs _ => .eor
  | .eorIndY _ => .eor
  | .eorIndZp _ => .eor
  | .eorZpX _ => .eor
  | .eorAbsY _ => .eor
  | .eorAbsX _ => .eor
  | .bitZp _ => .bit
  | .bitAbs _ => .bit
  | .aslZp _ => .asl
  | .aslA => .asl
  | .aslAbs _ => .asl
  | .aslZpX _ => .asl
  | .aslAbsX _ => .asl
  | .lsrZp _ => .lsr
  | .lsrA => .lsr
  | .lsrAbs _ => .lsr
  | .lsrZpX _ => .lsr
  | .lsrAbsX _ => .lsr
  | .rolZp _ => .rol
  | .rolA => .rol
  | .rolAbs _ => .rol
  | .rolZpX _ => .rol
  | .rolAbsX _ => .rol
  | .rorZp _ => .ror
  | .rorA => .ror
  | .rorAbs _ => .ror
  | .rorZpX _ => .ror
  | .rorAbsX _ => .ror
  | .tsbZp _ => .tsb
  | .tsbAbs _ => .tsb
  | .trbZp _ => .trb
  | .trbAbs _ => .trb
  | .bpl _ => .bpl
  | .bmi _ => .bmi
  | .bvc _ => .bvc
  | .bvs _ => .bvs
  | .bcc _ => .bcc
  | .bcs _ => .bcs
  | .bne _ => .bne
  | .beq _ => .beq
  | .bra _ => .bra
  | .jmpAbs _ => .jmp
  | .jmpInd _ => .jmp
  | .jmpAbsIndX _ => .jmp
  | .pha => .pha
  | .php => .php
  | .pla => .pla
  | .plp => .plp
  | .jsr _ => .jsr
  | .rts => .rts
  | .clc => .clc
  | .sec => .sec
  | .cli => .cli
  | .sei => .sei
  | .cld => .cld
  | .sed => .sed
  | .clv => .clv
  | .nop => .nop
  | .brk => .brk
  | .rti => .rti
  | .unsettledIncA => .unsettled
  | .unsettledBitZpX _ => .unsettled
  | .unsettledDecA => .unsettled
  | .unsettledBitAbsX _ => .unsettled
  | .unsettledPhy => .unsettled
  | .unsettledStzZp _ => .unsettled
  | .unsettledStzZpX _ => .unsettled
  | .unsettledPly => .unsettled
  | .unsettledBitImm _ => .unsettled
  | .unsettledStzAbs _ => .unsettled
  | .unsettledStzAbsX _ => .unsettled
  | .unsettledPhx => .unsettled
  | .unsettledPlx => .unsettled
  | .illegal _ => .illegal

/-- The addressing mode of an instruction with its operand (R106; R291 for the unsettled slots). -/
def Instr.operand : Instr → Operand
  | .ldaIndX b => .data (.indX b)
  | .ldaZp b => .data (.zp b)
  | .ldaImm v => .imm v
  | .ldaAbs w => .data (.abs w)
  | .ldaIndY b => .data (.indY b)
  | .ldaIndZp b => .data (.indZp b)
  | .ldaZpX b => .data (.zpX b)
  | .ldaAbsY w => .data (.absY w)
  | .ldaAbsX w => .data (.absX w)
  | .ldxImm v => .imm v
  | .ldxZp b => .data (.zp b)
  | .ldxAbs w => .data (.abs w)
  | .ldxZpY b => .data (.zpY b)
  | .ldxAbsY w => .data (.absY w)
  | .ldyImm v => .imm v
  | .ldyZp b => .data (.zp b)
  | .ldyAbs w => .data (.abs w)
  | .ldyZpX b => .data (.zpX b)
  | .ldyAbsX w => .data (.absX w)
  | .staIndX b => .data (.indX b)
  | .staZp b => .data (.zp b)
  | .staAbs w => .data (.abs w)
  | .staIndY b => .data (.indY b)
  | .staIndZp b => .data (.indZp b)
  | .staZpX b => .data (.zpX b)
  | .staAbsY w => .data (.absY w)
  | .staAbsX w => .data (.absX w)
  | .stxZp b => .data (.zp b)
  | .stxAbs w => .data (.abs w)
  | .stxZpY b => .data (.zpY b)
  | .styZp b => .data (.zp b)
  | .styAbs w => .data (.abs w)
  | .styZpX b => .data (.zpX b)
  | .tax => .implied
  | .tay => .implied
  | .txa => .implied
  | .tya => .implied
  | .tsx => .implied
  | .txs => .implied
  | .adcIndX b => .data (.indX b)
  | .adcZp b => .data (.zp b)
  | .adcImm v => .imm v
  | .adcAbs w => .data (.abs w)
  | .adcIndY b => .data (.indY b)
  | .adcIndZp b => .data (.indZp b)
  | .adcZpX b => .data (.zpX b)
  | .adcAbsY w => .data (.absY w)
  | .adcAbsX w => .data (.absX w)
  | .sbcIndX b => .data (.indX b)
  | .sbcZp b => .data (.zp b)
  | .sbcImm v => .imm v
  | .sbcAbs w => .data (.abs w)
  | .sbcIndY b => .data (.indY b)
  | .sbcIndZp b => .data (.indZp b)
  | .sbcZpX b => .data (.zpX b)
  | .sbcAbsY w => .data (.absY w)
  | .sbcAbsX w => .data (.absX w)
  | .cmpIndX b => .data (.indX b)
  | .cmpZp b => .data (.zp b)
  | .cmpImm v => .imm v
  | .cmpAbs w => .data (.abs w)
  | .cmpIndY b => .data (.indY b)
  | .cmpIndZp b => .data (.indZp b)
  | .cmpZpX b => .data (.zpX b)
  | .cmpAbsY w => .data (.absY w)
  | .cmpAbsX w => .data (.absX w)
  | .cpxImm v => .imm v
  | .cpxZp b => .data (.zp b)
  | .cpxAbs w => .data (.abs w)
  | .cpyImm v => .imm v
  | .cpyZp b => .data (.zp b)
  | .cpyAbs w => .data (.abs w)
  | .incZp b => .data (.zp b)
  | .incAbs w => .data (.abs w)
  | .incZpX b => .data (.zpX b)
  | .incAbsX w => .data (.absX w)
  | .decZp b => .data (.zp b)
  | .decAbs w => .data (.abs w)
  | .decZpX b => .data (.zpX b)
  | .decAbsX w => .data (.absX w)
  | .inx => .implied
  | .iny => .implied
  | .dex => .implied
  | .dey => .implied
  | .andIndX b => .data (.indX b)
  | .andZp b => .data (.zp b)
  | .andImm v => .imm v
  | .andAbs w => .data (.abs w)
  | .andIndY b => .data (.indY b)
  | .andIndZp b => .data (.indZp b)
  | .andZpX b => .data (.zpX b)
  | .andAbsY w => .data (.absY w)
  | .andAbsX w => .data (.absX w)
  | .oraIndX b => .data (.indX b)
  | .oraZp b => .data (.zp b)
  | .oraImm v => .imm v
  | .oraAbs w => .data (.abs w)
  | .oraIndY b => .data (.indY b)
  | .oraIndZp b => .data (.indZp b)
  | .oraZpX b => .data (.zpX b)
  | .oraAbsY w => .data (.absY w)
  | .oraAbsX w => .data (.absX w)
  | .eorIndX b => .data (.indX b)
  | .eorZp b => .data (.zp b)
  | .eorImm v => .imm v
  | .eorAbs w => .data (.abs w)
  | .eorIndY b => .data (.indY b)
  | .eorIndZp b => .data (.indZp b)
  | .eorZpX b => .data (.zpX b)
  | .eorAbsY w => .data (.absY w)
  | .eorAbsX w => .data (.absX w)
  | .bitZp b => .data (.zp b)
  | .bitAbs w => .data (.abs w)
  | .aslZp b => .data (.zp b)
  | .aslA => .acc
  | .aslAbs w => .data (.abs w)
  | .aslZpX b => .data (.zpX b)
  | .aslAbsX w => .data (.absX w)
  | .lsrZp b => .data (.zp b)
  | .lsrA => .acc
  | .lsrAbs w => .data (.abs w)
  | .lsrZpX b => .data (.zpX b)
  | .lsrAbsX w => .data (.absX w)
  | .rolZp b => .data (.zp b)
  | .rolA => .acc
  | .rolAbs w => .data (.abs w)
  | .rolZpX b => .data (.zpX b)
  | .rolAbsX w => .data (.absX w)
  | .rorZp b => .data (.zp b)
  | .rorA => .acc
  | .rorAbs w => .data (.abs w)
  | .rorZpX b => .data (.zpX b)
  | .rorAbsX w => .data (.absX w)
  | .tsbZp b => .data (.zp b)
  | .tsbAbs w => .data (.abs w)
  | .trbZp b => .data (.zp b)
  | .trbAbs w => .data (.abs w)
  | .bpl d => .rel d
  | .bmi d => .rel d
  | .bvc d => .rel d
  | .bvs d => .rel d
  | .bcc d => .rel d
  | .bcs d => .rel d
  | .bne d => .rel d
  | .beq d => .rel d
  | .bra d => .rel d
  | .jmpAbs w => .data (.abs w)
  | .jmpInd w => .ind w
  | .jmpAbsIndX w => .absIndX w
  | .pha => .implied
  | .php => .implied
  | .pla => .implied
  | .plp => .implied
  | .jsr w => .data (.abs w)
  | .rts => .implied
  | .clc => .implied
  | .sec => .implied
  | .cli => .implied
  | .sei => .implied
  | .cld => .implied
  | .sed => .implied
  | .clv => .implied
  | .nop => .implied
  | .brk => .implied
  | .rti => .implied
  | .unsettledIncA => .acc
  | .unsettledBitZpX b => .data (.zpX b)
  | .unsettledDecA => .acc
  | .unsettledBitAbsX w => .data (.absX w)
  | .unsettledPhy => .implied
  | .unsettledStzZp b => .data (.zp b)
  | .unsettledStzZpX b => .data (.zpX b)
  | .unsettledPly => .implied
  | .unsettledBitImm v => .imm v
  | .unsettledStzAbs w => .data (.abs w)
  | .unsettledStzAbsX w => .data (.absX w)
  | .unsettledPhx => .implied
  | .unsettledPlx => .implied
  | .illegal _ => .implied

/-- R101: the operand bytes of a data mode, a word low byte first. -/
def DataMode.bytes : DataMode → List Byte
  | .zp b | .zpX b | .zpY b | .indX b | .indY b | .indZp b => [b]
  | .abs w | .absX w | .absY w => [lowByte w, highByte w]

/-- R101: the operand bytes of every addressing mode. -/
def Operand.bytes : Operand → List Byte
  | .implied | .acc => []
  | .imm b | .rel b => [b]
  | .data m => m.bytes
  | .ind w | .absIndX w => [lowByte w, highByte w]

/-- The operand of an instruction that reads one operand byte (R138), where its mode is Immediate or a data mode. -/
def Operand.read? : Operand → Option ReadOperand
  | .imm v => some (.imm v)
  | .data m => some (.data m)
  | _ => none

/-- The data mode of an instruction whose operand is an effective address. -/
def Operand.data? : Operand → Option DataMode
  | .data m => some m
  | _ => none

/-- R110: a decoder knows the number of operand bytes from the opcode byte alone. -/
def operandCount (op : Byte) : Nat := (decodeOpcode op 0 0).operand.bytes.length

/-- Why the decoder gives no instruction: it rejects by name. -/
inductive DecodeError where
  | noBytes                       -- not even an opcode byte
  | truncated (need left : Nat)  -- the opcode takes `need` operand bytes and only `left` are there
  deriving DecidableEq, Repr

/-- Decodes the first instruction of a list of bytes and gives the bytes after it. -/
def decode : List Byte → Except DecodeError (Instr × List Byte)
  | [] => .error .noBytes
  | op :: rest =>
    let n := operandCount op
    if rest.length < n then .error (.truncated n rest.length)
    else .ok (decodeOpcode op (rest.getD 0 0) (rest.getD 1 0), rest.drop n)

/-- The opcode byte of an instruction (R106). -/
def Instr.opcode : Instr → Byte
  | .ldaIndX _ => 0xA1
  | .ldaZp _ => 0xA5
  | .ldaImm _ => 0xA9
  | .ldaAbs _ => 0xAD
  | .ldaIndY _ => 0xB1
  | .ldaIndZp _ => 0xB2
  | .ldaZpX _ => 0xB5
  | .ldaAbsY _ => 0xB9
  | .ldaAbsX _ => 0xBD
  | .ldxImm _ => 0xA2
  | .ldxZp _ => 0xA6
  | .ldxAbs _ => 0xAE
  | .ldxZpY _ => 0xB6
  | .ldxAbsY _ => 0xBE
  | .ldyImm _ => 0xA0
  | .ldyZp _ => 0xA4
  | .ldyAbs _ => 0xAC
  | .ldyZpX _ => 0xB4
  | .ldyAbsX _ => 0xBC
  | .staIndX _ => 0x81
  | .staZp _ => 0x85
  | .staAbs _ => 0x8D
  | .staIndY _ => 0x91
  | .staIndZp _ => 0x92
  | .staZpX _ => 0x95
  | .staAbsY _ => 0x99
  | .staAbsX _ => 0x9D
  | .stxZp _ => 0x86
  | .stxAbs _ => 0x8E
  | .stxZpY _ => 0x96
  | .styZp _ => 0x84
  | .styAbs _ => 0x8C
  | .styZpX _ => 0x94
  | .tax => 0xAA
  | .tay => 0xA8
  | .txa => 0x8A
  | .tya => 0x98
  | .tsx => 0xBA
  | .txs => 0x9A
  | .adcIndX _ => 0x61
  | .adcZp _ => 0x65
  | .adcImm _ => 0x69
  | .adcAbs _ => 0x6D
  | .adcIndY _ => 0x71
  | .adcIndZp _ => 0x72
  | .adcZpX _ => 0x75
  | .adcAbsY _ => 0x79
  | .adcAbsX _ => 0x7D
  | .sbcIndX _ => 0xE1
  | .sbcZp _ => 0xE5
  | .sbcImm _ => 0xE9
  | .sbcAbs _ => 0xED
  | .sbcIndY _ => 0xF1
  | .sbcIndZp _ => 0xF2
  | .sbcZpX _ => 0xF5
  | .sbcAbsY _ => 0xF9
  | .sbcAbsX _ => 0xFD
  | .cmpIndX _ => 0xC1
  | .cmpZp _ => 0xC5
  | .cmpImm _ => 0xC9
  | .cmpAbs _ => 0xCD
  | .cmpIndY _ => 0xD1
  | .cmpIndZp _ => 0xD2
  | .cmpZpX _ => 0xD5
  | .cmpAbsY _ => 0xD9
  | .cmpAbsX _ => 0xDD
  | .cpxImm _ => 0xE0
  | .cpxZp _ => 0xE4
  | .cpxAbs _ => 0xEC
  | .cpyImm _ => 0xC0
  | .cpyZp _ => 0xC4
  | .cpyAbs _ => 0xCC
  | .incZp _ => 0xE6
  | .incAbs _ => 0xEE
  | .incZpX _ => 0xF6
  | .incAbsX _ => 0xFE
  | .decZp _ => 0xC6
  | .decAbs _ => 0xCE
  | .decZpX _ => 0xD6
  | .decAbsX _ => 0xDE
  | .inx => 0xE8
  | .iny => 0xC8
  | .dex => 0xCA
  | .dey => 0x88
  | .andIndX _ => 0x21
  | .andZp _ => 0x25
  | .andImm _ => 0x29
  | .andAbs _ => 0x2D
  | .andIndY _ => 0x31
  | .andIndZp _ => 0x32
  | .andZpX _ => 0x35
  | .andAbsY _ => 0x39
  | .andAbsX _ => 0x3D
  | .oraIndX _ => 0x01
  | .oraZp _ => 0x05
  | .oraImm _ => 0x09
  | .oraAbs _ => 0x0D
  | .oraIndY _ => 0x11
  | .oraIndZp _ => 0x12
  | .oraZpX _ => 0x15
  | .oraAbsY _ => 0x19
  | .oraAbsX _ => 0x1D
  | .eorIndX _ => 0x41
  | .eorZp _ => 0x45
  | .eorImm _ => 0x49
  | .eorAbs _ => 0x4D
  | .eorIndY _ => 0x51
  | .eorIndZp _ => 0x52
  | .eorZpX _ => 0x55
  | .eorAbsY _ => 0x59
  | .eorAbsX _ => 0x5D
  | .bitZp _ => 0x24
  | .bitAbs _ => 0x2C
  | .aslZp _ => 0x06
  | .aslA => 0x0A
  | .aslAbs _ => 0x0E
  | .aslZpX _ => 0x16
  | .aslAbsX _ => 0x1E
  | .lsrZp _ => 0x46
  | .lsrA => 0x4A
  | .lsrAbs _ => 0x4E
  | .lsrZpX _ => 0x56
  | .lsrAbsX _ => 0x5E
  | .rolZp _ => 0x26
  | .rolA => 0x2A
  | .rolAbs _ => 0x2E
  | .rolZpX _ => 0x36
  | .rolAbsX _ => 0x3E
  | .rorZp _ => 0x66
  | .rorA => 0x6A
  | .rorAbs _ => 0x6E
  | .rorZpX _ => 0x76
  | .rorAbsX _ => 0x7E
  | .tsbZp _ => 0x04
  | .tsbAbs _ => 0x0C
  | .trbZp _ => 0x14
  | .trbAbs _ => 0x1C
  | .bpl _ => 0x10
  | .bmi _ => 0x30
  | .bvc _ => 0x50
  | .bvs _ => 0x70
  | .bcc _ => 0x90
  | .bcs _ => 0xB0
  | .bne _ => 0xD0
  | .beq _ => 0xF0
  | .bra _ => 0x80
  | .jmpAbs _ => 0x4C
  | .jmpInd _ => 0x6C
  | .jmpAbsIndX _ => 0x7C
  | .pha => 0x48
  | .php => 0x08
  | .pla => 0x68
  | .plp => 0x28
  | .jsr _ => 0x20
  | .rts => 0x60
  | .clc => 0x18
  | .sec => 0x38
  | .cli => 0x58
  | .sei => 0x78
  | .cld => 0xD8
  | .sed => 0xF8
  | .clv => 0xB8
  | .nop => 0xEA
  | .brk => 0x00
  | .rti => 0x40
  | .unsettledIncA => 0x1A
  | .unsettledBitZpX _ => 0x34
  | .unsettledDecA => 0x3A
  | .unsettledBitAbsX _ => 0x3C
  | .unsettledPhy => 0x5A
  | .unsettledStzZp _ => 0x64
  | .unsettledStzZpX _ => 0x74
  | .unsettledPly => 0x7A
  | .unsettledBitImm _ => 0x89
  | .unsettledStzAbs _ => 0x9C
  | .unsettledStzAbsX _ => 0x9E
  | .unsettledPhx => 0xDA
  | .unsettledPlx => 0xFA
  | .illegal op => op

/-- R101: the bytes of an instruction, the opcode first, then the operand bytes in address order. -/
def encode (i : Instr) : List Byte := i.opcode :: i.operand.bytes

/-- Byte `k` of a number, bits `8k+7` down to `8k`. -/
def byteOf (w k : Nat) : Byte := BitVec.ofNat 8 (w / 256 ^ k)

/-- The instruction the decoder reads where the instruction's bits, numbered as the opcode table numbers them, are the low
`nbits` bits of `w` and every later bit is 0: the longest instruction has three bytes (R100). -/
def decodeTableWord (nbits w : Nat) : Option Instr :=
  let v := w % 2 ^ nbits
  match decode [byteOf v 0, byteOf v 1, byteOf v 2] with
  | .ok r => some r.1
  | .error _ => none

end Sys2Proof
end

