-- ==== Sys2Proof/Machine/State.lean ====
section
/-! DEFINITION. The state of the machine (00_scope.md R18, 10_state.md, 20_memory.md R50–R61) as plain data, the reasons a
run can stop, and the state after reset (R40, R340). -/

namespace Sys2Proof.Machine

/-- R26: the six stored flags, "independently settable bits" (R20). B and R are no stored flags (R33, R34). -/
structure Flags where
  n : Bool  -- negative
  v : Bool  -- signed overflow
  d : Bool  -- decimal mode
  i : Bool  -- interrupt disable
  z : Bool  -- zero
  c : Bool  -- carry, or not borrow
  deriving DecidableEq, Repr

/-- R52: the kinds of a warning or an error. -/
inductive EventKind where
  | noKey | kbdWrite | dspStatusRead | lowAddress | unknownIO | badAddress | badValue
  deriving DecidableEq, Repr

/-- R52: a host-visible event. -/
inductive Event where
  | output (c : Byte)     -- a call of `onOutput`
  | warn (k : EventKind)  -- a call of `warn`
  | error (k : EventKind) -- a call of `error`
  deriving DecidableEq, Repr

/-- R50: the RAM cells that hold another byte than `Config.unlistedByte`, addresses strictly rising (`Memory.wf`). The cells
under the peripheral window are left out (R59). -/
abbrev Memory := List Host.Cell

/-- The machine (R18). -/
structure State where
  a        : Byte        -- accumulator (R21)
  x        : Byte        -- index register X (R22)
  y        : Byte        -- index register Y (R23)
  sp       : Byte        -- stack pointer into page 0x01 (R24)
  pc       : Word        -- program counter (R25)
  p        : Flags       -- status flags (R26)
  halted   : Bool        -- the sticky halt flag (R37)
  mem      : Memory      -- the memory array (R50)
  lastKey  : Byte        -- keyboard scalar key, 0 when none is pending (R60)
  kq       : List Byte   -- keyboard queue (R60)
  kc       : Nat         -- its cursor (R60)
  kqActive : Bool        -- whether the queue is the active source (R60)
  dspLatch : Byte        -- display output latch, the unmasked byte (R61)
  trace    : List Event  -- the event trace, oldest first (R52)
  draws    : Nat         -- the model's own: how many free values the run has used (assumption log 2)
  deriving DecidableEq, Repr

/-- Reasons for a fault. There is none: "No exceptions/panics are used for control flow anywhere in the core", and no point of
the block is treated as a fault (R301; 93_implementation_defined.md Part 1). A claim that no run faults is safe. -/
inductive Fault where
  deriving DecidableEq, Repr

/-- R302: the names of the points that a parameter may leave unsettled (D2, D7, D8). -/
inductive Unsettled where
  | unnamedC02Slot | addrOverflow | zpPtrWrap
  deriving DecidableEq, Repr

/-- Reasons for a refusal. -/
inductive Refusal where
  /-- Raised by `exec` for an instruction that has no meaning yet. Safe. No arm raises it now. -/
  | notModelled (mnemonic : String)
  /-- Raised by the host operation `fillKeyBuf` for a character code above `0xFF` (R76: "outside the model (refused)"; D28).
  Safe. No instruction raises it. -/
  | keyCharAboveFF
  /-- R13, `refuse Unsettled(name)`: raised by `execUnder` and `stepUnder` where a setting leaves the point unsettled (R302). Safe.
  `exec` and `step`, whose parameters are all settled (assumption log 1), never raise it. -/
  | unsettled (point : Unsettled)
  deriving DecidableEq, Repr

/-- What an instruction, a step or a host operation answers. -/
abbrev Outcome := Host.Outcome State Fault Refusal

/-- R40, R340: the machine right after construction. `halted`, `lastKey`, `kqActive` and the trace are as R40 states. The values R40
leaves to a launch draw are zero and PC is `Config.resetPC`: DESIGN CHOICE, assumption log 3, 4 and 5. R40 says of the keyboard queue
only that it is inactive; that it starts empty with its cursor `kc` at 0 is a DESIGN CHOICE, assumption log 17. -/
def State.reset : State where
  a := 0
  x := 0
  y := 0
  sp := 0
  pc := Config.resetPC
  p := ⟨false, false, false, false, false, false⟩
  halted := false
  mem := []
  lastKey := 0
  kq := []
  kc := 0
  kqActive := false
  dspLatch := 0
  trace := []
  draws := 0

end Sys2Proof.Machine
end

