-- ==== Sys2Proof/Machine/Flags.lean ====
section
/-! DEFINITION. Every computation of flags and of arithmetic results (10_state.md R26–R36, 42_arithmetic.md, 43_logic_shift_bit.md),
as functions of bytes and flags. -/

namespace Sys2Proof.Machine

/-- R14: "`setNZ(v)` sets Z iff `v==0` and N iff bit 7 of `v` is set, leaving all other flags untouched". -/
def Flags.setNZ (v : Byte) (p : Flags) : Flags := { p with z := v == 0, n := v.getLsbD 7 }

/-- The byte whose bit `k` is `b` and whose other bits are 0. -/
def bitAt (b : Bool) (k : Nat) : Byte := if b then 1#8 <<< k else 0

/-- R35, `PackP(b)`: the status byte of a push; bit 5 is always 1 (R34). -/
def Flags.pack (b : Bool) (p : Flags) : Byte :=
  bitAt p.n 7 ||| bitAt p.v 6 ||| 0x20 ||| bitAt b 4 ||| bitAt p.d 3 ||| bitAt p.i 2 ||| bitAt p.z 1 ||| bitAt p.c 0

/-- R36, `UnpackP(s)`: the six flags of a pulled status byte; bits 5 and 4 are discarded. -/
def Flags.unpack (s : Byte) : Flags where
  n := s.getLsbD 7
  v := s.getLsbD 6
  d := s.getLsbD 3
  i := s.getLsbD 2
  z := s.getLsbD 1
  c := s.getLsbD 0

/-- R172, `AdcBinary(m)`: the sum and the flags. -/
def adcBinary (a m : Byte) (p : Flags) : Byte × Flags :=
  let t := a.toNat + m.toNat + p.c.toNat
  let r := BitVec.ofNat 8 t
  (r, { p with c := decide (t > 0xFF), v := (a ^^^ r) &&& (m ^^^ r) &&& 0x80 != 0 }.setNZ r)

/-- R175, `SbcBinary(m)`: the difference and the flags. -/
def sbcBinary (a m : Byte) (p : Flags) : Byte × Flags :=
  let t : Int := a.toNat - m.toNat - (1 - p.c.toNat)
  let r := BitVec.ofInt 8 t
  (r, { p with c := decide (t ≥ 0), v := (a ^^^ m) &&& (a ^^^ r) &&& 0x80 != 0 }.setNZ r)

/-- R170, `validBCD(v)`. -/
def bcdValid (v : Byte) : Bool := v.toNat / 16 ≤ 9 && v.toNat % 16 ≤ 9

/-- R170, `dec(v)`; on a byte that is not valid BCD it is R177's `formula`. -/
def bcdDecode (v : Byte) : Nat := 10 * (v.toNat / 16) + v.toNat % 16

/-- R170, `enc(n)`, mod 2^8 as R177's `formula` has it. -/
def bcdEncode (n : Nat) : Byte := BitVec.ofNat 8 ((n / 10) <<< 4 ||| n % 10)

/-- R178: N, Z and V after decimal ADC and SBC with result `r`; `k` numbers the free values. -/
def decimalNZV (f : DecimalFlags) (k : Nat) (r : Byte) (p : Flags) : Flags :=
  match f with
  | .draw => { p with n := Config.drawBit (k + 1), z := Config.drawBit (k + 2), v := Config.drawBit (k + 3) }
  | .fromResult => p.setNZ r

/-- R177, the value `draw`: A, C, N, Z and V are free values, I and D unchanged. -/
def decimalDrawn (k : Nat) (p : Flags) : Byte × Flags :=
  (Config.drawByte k, decimalNZV .draw k 0 { p with c := Config.drawBit k })

/-- R173: the decimal sum and the carry. -/
def bcdAdd (a m : Byte) (c : Bool) : Byte × Bool :=
  let t := bcdDecode a + bcdDecode m + c.toNat
  if t > 99 then (bcdEncode (t - 100), true) else (bcdEncode t, false)

/-- R176: the decimal difference and the carry. R177's `formula` states `enc` for 0..255 only, so a difference below −100,
which valid BCD never gives, has a free value (assumption log 6). -/
def bcdSub (k : Nat) (a m : Byte) (c : Bool) : Byte × Bool :=
  let t : Int := bcdDecode a - bcdDecode m - 1 + c.toNat
  if t < -100 then (Config.drawByte k, false)
  else if t < 0 then (bcdEncode (t + 100).toNat, false)
  else (bcdEncode t.toNat, true)

/-- R173, R176, R177: decimal ADC or SBC given its sum or difference `r`. -/
def decimalResult (c : Params) (k : Nat) (a m : Byte) (r : Byte × Bool) (p : Flags) : Byte × Flags :=
  let computed := (r.1, decimalNZV c.decimalFlags k r.1 { p with c := r.2 })
  if bcdValid a && bcdValid m then computed
  else match c.decimalInvalid with
    | .draw => decimalDrawn k p
    | .formula => computed

/-- R173, `AdcDecimal(m)`. -/
def adcDecimal (c : Params) (k : Nat) (a m : Byte) (p : Flags) : Byte × Flags :=
  decimalResult c k a m (bcdAdd a m p.c) p

/-- R176, `SbcDecimal(m)`. -/
def sbcDecimal (c : Params) (k : Nat) (a m : Byte) (p : Flags) : Byte × Flags :=
  decimalResult c k a m (bcdSub k a m p.c) p

/-- R179, `Compare(r, m)`: the flags of an unsigned compare, binary in decimal mode too. -/
def Flags.compare (r m : Byte) (p : Flags) : Flags :=
  { p with c := decide (r.toNat ≥ m.toNat) }.setNZ (r - m)

/-- R204, BIT: N and V from the operand, Z from `A & m`. -/
def Flags.bitTest (a m : Byte) (p : Flags) : Flags :=
  { p with v := m.getLsbD 6, n := m.getLsbD 7, z := a &&& m == 0 }

/-- R291, `BIT #` under `c02`: Z only. -/
def Flags.bitTestImm (a m : Byte) (p : Flags) : Flags := { p with z := a &&& m == 0 }

/-- R183, R185: an increment's result and its flags. -/
def incByte (v : Byte) (p : Flags) : Byte × Flags := (v + 1, p.setNZ (v + 1))

/-- R184, R187: a decrement's result and its flags. -/
def decByte (v : Byte) (p : Flags) : Byte × Flags := (v - 1, p.setNZ (v - 1))

/-- R200: the flags of a shift with result `r` and the bit shifted out. -/
def shiftResult (r : Byte) (out : Bool) (p : Flags) : Byte × Flags := (r, { p with c := out }.setNZ r)

/-- R205, ASL. -/
def aslByte (v : Byte) (p : Flags) : Byte × Flags := shiftResult (v <<< 1) (v.getLsbD 7) p

/-- R206, LSR. -/
def lsrByte (v : Byte) (p : Flags) : Byte × Flags := shiftResult (v >>> 1) (v.getLsbD 0) p

/-- R207, ROL: `cin` is the carry before. -/
def rolByte (v : Byte) (p : Flags) : Byte × Flags := shiftResult (v <<< 1 ||| bitAt p.c 0) (v.getLsbD 7) p

/-- R208, ROR: `cin` is the carry before. -/
def rorByte (v : Byte) (p : Flags) : Byte × Flags := shiftResult (v >>> 1 ||| bitAt p.c 7) (v.getLsbD 0) p

/-- R209, TSB: Z from the written value (90_conflicts.md C10). -/
def tsbByte (a v : Byte) (p : Flags) : Byte × Flags := (v ||| a, { p with z := v ||| a == 0 })

/-- R210, TRB: Z from the written value (90_conflicts.md C10). -/
def trbByte (a v : Byte) (p : Flags) : Byte × Flags := (v &&& ~~~a, { p with z := v &&& ~~~a == 0 })

end Sys2Proof.Machine
end

