-- ==== Sys2Proof/Machine/Ops.lean ====
section
/-! DEFINITION. The named operations: writing a register, memory and its bus (20_memory.md), the stack (45_stack_subroutine.md),
and taking an interrupt and returning from one (60_exceptions.md). -/

namespace Sys2Proof.Machine

/-! ### Registers: every write of one goes through these -/

def State.setA (v : Byte) (s : State) : State := { s with a := v }
def State.setX (v : Byte) (s : State) : State := { s with x := v }
def State.setY (v : Byte) (s : State) : State := { s with y := v }
def State.setSp (v : Byte) (s : State) : State := { s with sp := v }
def State.setPc (v : Word) (s : State) : State := { s with pc := v }
def State.setP (v : Flags) (s : State) : State := { s with p := v }
def State.setMem (v : Memory) (s : State) : State := { s with mem := v }

/-- R14 on the state. -/
def State.setNZ (v : Byte) (s : State) : State := s.setP (s.p.setNZ v)

/-- R290, `raise Halt()`: nothing but the halt flag changes. -/
def State.halt (s : State) : State := { s with halted := true }

/-- R52, `Emit(ev)`. -/
def State.emit (e : Event) (s : State) : State := { s with trace := s.trace ++ [e] }

/-- Uses up `n` free values (assumption log 2). -/
def State.useDraws (n : Nat) (s : State) : State := { s with draws := s.draws + n }

/-! ### The memory array -/

/-- R53: the peripheral window. -/
def inWindow (a : Nat) : Bool := 0xD000 ≤ a && a ≤ 0xDFFF

/-- R53: an address that is RAM. -/
def isRam (a : Nat) : Bool := a ≤ 0xFFFF && !inWindow a

/-- Strictly rising addresses. -/
def Memory.rising : Memory → Bool
  | [] => true
  | [_] => true
  | c :: d :: m => c.1 < d.1 && Memory.rising (d :: m)

/-- The one canonical form: addresses strictly rising, each a RAM address, and no entry equal to what an unlisted address
reads as. -/
def Memory.wf (m : Memory) : Bool :=
  Memory.rising m && m.all (fun c => isRam c.1 && c.2 != Config.unlistedByte)

/-- R88: the byte at an address: the last one written, or the launch value. -/
def Memory.read (a : Nat) : Memory → Byte
  | [] => Config.unlistedByte
  | c :: m => if c.1 = a then c.2 else Memory.read a m

/-- `c :: m`, or `m` where the cell holds what an unlisted address reads as. -/
def Memory.put (c : Host.Cell) (m : Memory) : Memory := if c.2 = Config.unlistedByte then m else c :: m

/-- `mem[a] <- v`, in the canonical form. -/
def Memory.write (a : Nat) (v : Byte) : Memory → Memory
  | [] => Memory.put (a, v) []
  | c :: m =>
    if a < c.1 then Memory.put (a, v) (c :: m)
    else if a = c.1 then Memory.put (a, v) m
    else c :: Memory.write a v m

/-! ### The peripherals (R60–R73) -/

/-- R66, `KbdDataRead()`: pops the queue or takes the scalar key, which is cleared in either case. -/
def kbdDataRead (s : State) : Byte × State :=
  let key := if s.kqActive then s.kq.getD s.kc 0 else s.lastKey
  let s1 : State :=
    if s.kqActive then { s with kc := s.kc + 1, kqActive := decide (s.kc + 1 ≠ s.kq.length), lastKey := 0 }
    else { s with lastKey := 0 }
  (key ||| 0x80, if key = 0 then s1.emit (.warn .noKey) else s1)

/-- R67, `KbdStatusRead()`. -/
def kbdStatusRead (s : State) : Byte := if !s.kqActive && s.lastKey == 0 then 0x01 else 0x80

/-- R69, `DspDataWrite(v)`: seven bits out, CR as LF, and the unmasked byte in the latch. -/
def dspDataWrite (v : Byte) (s : State) : State :=
  let c := v &&& 0x7F
  { s.emit (.output (if c = 0x0D then 0x0A else c)) with dspLatch := v }

/-- R70, `DspDataRead()`. -/
def dspDataRead (s : State) : Byte := s.dspLatch &&& 0x7F

/-- R72, `Wr13(v)`: no state change, and the event `Wr13Event`. -/
def dspStatusWrite (c : Params) (s : State) : State :=
  match c.wr13Event with
  | .none => s
  | .warn => s.emit (.warn .unknownIO)
  | .error => s.emit (.error .unknownIO)

/-- R64, `PeriphRead(a)`: reads match literal addresses, they are not folded (R57). -/
def periphRead (a : Nat) (s : State) : Byte × State :=
  if a = 0xD010 then kbdDataRead s
  else if a = 0xD011 then (kbdStatusRead s, s)
  else if a = 0xD012 ∨ a = 0xD0F2 then (dspDataRead s, s)
  else if a = 0xD013 then (0, s.emit (.warn .dspStatusRead))
  else (0, s.emit (.error .unknownIO))

/-- R57: the folded address of a write in the window. -/
def foldWrite (a : Nat) : Nat := (a &&& 0xF00F) ||| 0x0010

/-- R65, `PeriphWrite(a', v)` for a folded address. -/
def periphWrite (c : Params) (a : Nat) (v : Byte) (s : State) : State :=
  if a = 0xD010 ∨ a = 0xD011 then s.emit (.warn .kbdWrite)
  else if a = 0xD012 then dspDataWrite v s
  else if a = 0xD013 then dspStatusWrite c s
  else s.emit (.error .unknownIO)

/-! ### The bus (R51–R59): every access is one byte -/

/-- R55, R56: the warning of an access to `0x0000` or `0x0001`. -/
def warnLow (a : Nat) (s : State) : State := if a ≤ 1 then s.emit (.warn .lowAddress) else s

/-- R55, `MemRead(a, 1)`; an address above `0xFFFF` comes only from `AddrOverflow = busOutOfRange` (R54). -/
def busRead (a : Nat) (s : State) : Byte × State :=
  if a > 0xFFFF then (0, s.emit (.error .badAddress))
  else if inWindow a then periphRead a s
  else (s.mem.read a, warnLow a s)

/-- R56, `MemWrite(a, 1, v)` of a byte (R58). -/
def busWrite (c : Params) (a : Nat) (v : Byte) (s : State) : State :=
  if a > 0xFFFF then s.emit (.error .badAddress)
  else if inWindow a then periphWrite c (foldWrite a) v s
  else let s1 := warnLow a s; s1.setMem (s1.mem.write a v)

/-- R56 whole, as the host's loaders call it: the address and the value may be out of range (R54). Of two errors only
`BadAddress` is recorded (D32). -/
def busWriteChecked (c : Params) (a v : Int) (s : State) : State :=
  if a < 0 ∨ a > 0xFFFF then s.emit (.error .badAddress)
  else if v < 0 ∨ v > 0xFF then s.emit (.error .badValue)
  else busWrite c a.toNat (BitVec.ofInt 8 v) s

/-- R125: the address used for an exact address sum `n`. -/
def overflowAddr (c : Params) (n : Nat) : Nat :=
  if n ≤ 0xFFFF then n
  else match c.addrOverflow with
    | .wrap16 => n % 0x10000
    | .busOutOfRange => n

/-- R124, `Read16(a)` of a pointer or the vector: low byte first, no page wrap. -/
def read16 (c : Params) (a : Nat) (s : State) : Word × State :=
  let lo := busRead a s
  let hi := busRead (overflowAddr c (a + 1)) lo.2
  (wordOf hi.1 lo.1, hi.2)

/-! ### The stack (R250–R253) -/

/-- R24: the address of the stack byte that SP designates. -/
def stackAddr (sp : Byte) : Nat := 0x0100 + sp.toNat

/-- R250, `Push(v)`: SP is decremented after the write and wraps. -/
def push (c : Params) (v : Byte) (s : State) : State :=
  (busWrite c (stackAddr s.sp) v s).setSp (s.sp - 1)

/-- R251, `Pop()`: SP is incremented before the read and wraps. -/
def pop (s : State) : Byte × State := busRead (stackAddr (s.sp + 1)) (s.setSp (s.sp + 1))

/-- R252, `Push16(w)`: the high byte first. -/
def push16 (c : Params) (w : Word) (s : State) : State := push c (lowByte w) (push c (highByte w) s)

/-- R253, `Pop16()`: the low byte first. -/
def pop16 (s : State) : Word × State :=
  let lo := pop s
  let hi := pop lo.2
  (wordOf hi.1 lo.1, hi.2)

/-! ### Taking an interrupt and returning from one -/

/-- R278, R311, R322: what BRK and the hardware-interrupt entry share. The return address and the status byte with bit 4 = `b`
are pushed, I is set, D stays, and PC is loaded from the vector at `0xFFFE`. -/
def enterInterrupt (c : Params) (ret : Word) (b : Bool) (s : State) : State :=
  let s1 := push c (s.p.pack b) (push16 c ret s)
  let r := read16 c 0xFFFE (s1.setP { s1.p with i := true })
  r.2.setPc r.1

/-- R279, R324: the return: the six flags from the pulled status byte, then the PC, with no +1. -/
def returnFromInterrupt (s : State) : State :=
  let f := pop s
  let r := pop16 (f.2.setP (Flags.unpack f.1))
  r.2.setPc r.1

end Sys2Proof.Machine
end

