-- ==== Sys2Proof/Machine/Operands.lean ====
section
/-! DEFINITION. The addressing modes and the access patterns (40_addressing.md). The operand bytes have been fetched before
(R103: "before any other bus access of the instruction"), so a mode's operand is in the instruction. -/

namespace Sys2Proof.Machine

/-- R126, `succZ(p)`: where the high byte of a zero-page pointer at `p` is read. -/
def zpSucc (c : Params) (p : Byte) : Nat :=
  if p = 0xFF then match c.zpPtrWrap with
    | .wrapZp => 0x00
    | .linear => 0x100
  else p.toNat + 1

/-- R126, `ptr(p)`: the word of a zero-page pointer, low byte first. -/
def zpPointer (c : Params) (p : Byte) (s : State) : Word × State :=
  let lo := busRead p.toNat s
  let hi := busRead (zpSucc c p) lo.2
  (wordOf hi.1 lo.1, hi.2)

/-- R127–R134: the effective address of a data mode, and the state after its pointer reads. -/
def effAddr (c : Params) (m : DataMode) (s : State) : Nat × State :=
  match m with
  | .zp b => (b.toNat, s)
  | .zpX b => ((b + s.x).toNat, s)
  | .zpY b => ((b + s.y).toNat, s)
  | .abs w => (w.toNat, s)
  | .absX w => (overflowAddr c (w.toNat + s.x.toNat), s)
  | .absY w => (overflowAddr c (w.toNat + s.y.toNat), s)
  | .indX b => let q := zpPointer c (b + s.x) s; (q.1.toNat, q.2)
  | .indY b => let q := zpPointer c b s; (overflowAddr c (q.1.toNat + s.y.toNat), q.2)
  | .indZp b => let q := zpPointer c b s; (q.1.toNat, q.2)

/-- R138, `LoadOperand(o)`. -/
def loadOperand (c : Params) (o : ReadOperand) (s : State) : Byte × State :=
  match o with
  | .imm v => (v, s)
  | .data m => let e := effAddr c m s; busRead e.1 e.2

/-- An instruction that reads its operand and does `f` with the byte. -/
def withOperand (c : Params) (o : ReadOperand) (f : Byte → State → State) (s : State) : State :=
  let r := loadOperand c o s
  f r.1 r.2

/-- R139: exactly one write at the effective address and no read of it. -/
def store (c : Params) (m : DataMode) (v : Byte) (s : State) : State :=
  let e := effAddr c m s
  busWrite c e.1 v e.2

/-- R140: exactly one read and one write at the effective address; `f` gives the byte to write and the flags. -/
def modify (c : Params) (m : DataMode) (f : Byte → Flags → Byte × Flags) (s : State) : State :=
  let e := effAddr c m s
  let r := busRead e.1 e.2
  let q := f r.1 r.2.p
  (busWrite c e.1 q.1 r.2).setP q.2

/-- R140 on `Acc`: no bus access. -/
def modifyA (f : Byte → Flags → Byte × Flags) (s : State) : State :=
  let q := f s.a s.p
  (s.setA q.1).setP q.2

/-- R137: the target of a branch; PC is already past the displacement byte. -/
def branchTarget (pc : Word) (d : Byte) : Word := pc + d.signExtend 16

/-- R230, `Branch(cond)`. -/
def branch (cond : Bool) (d : Byte) (s : State) : State :=
  if cond then s.setPc (branchTarget s.pc d) else s

end Sys2Proof.Machine
end

