-- ==== Sys2Proof/Machine/Arithmetic.lean ====
section
/-! DEFINITION. Arithmetic, compare, increment and decrement (42_arithmetic.md R171–R188): one meaning per row of the opcode table. PC is already past the instruction. -/

namespace Sys2Proof.Machine

/-- A state that takes an arithmetic result into A and its flags. -/
def State.setResult (q : Byte × Flags) (s : State) : State := (s.setA q.1).setP q.2

/-- R171, ADC of a byte: binary, or decimal with its four free values. -/
def adcByte (c : Params) (m : Byte) (s : State) : State :=
  if s.p.d then (s.setResult (adcDecimal c s.draws s.a m s.p)).useDraws 4
  else s.setResult (adcBinary s.a m s.p)

/-- R174, SBC of a byte: binary, or decimal with its four free values. -/
def sbcByte (c : Params) (m : Byte) (s : State) : State :=
  if s.p.d then (s.setResult (sbcDecimal c s.draws s.a m s.p)).useDraws 4
  else s.setResult (sbcBinary s.a m s.p)

/-- R171, ADC. -/
def adc (c : Params) (o : ReadOperand) : State → State := withOperand c o (adcByte c)

/-- R174, SBC. -/
def sbc (c : Params) (o : ReadOperand) : State → State := withOperand c o (sbcByte c)

/-- R180, CMP: `Compare(A, LoadOperand(o))`. -/
def compareA (c : Params) (o : ReadOperand) : State → State := withOperand c o fun m s => s.setP (s.p.compare s.a m)

/-- R181, CPX. -/
def compareX (c : Params) (o : ReadOperand) : State → State := withOperand c o fun m s => s.setP (s.p.compare s.x m)

/-- R182, CPY. -/
def compareY (c : Params) (o : ReadOperand) : State → State := withOperand c o fun m s => s.setP (s.p.compare s.y m)

/-- R171 `0x61` ADC ($nn,X). -/
def execAdcIndX (b : Byte) (s : State) : Outcome := .next (adc Config.params (.data (.indX b)) s)

/-- R171 `0x65` ADC $nn. -/
def execAdcZp (b : Byte) (s : State) : Outcome := .next (adc Config.params (.data (.zp b)) s)

/-- R171 `0x69` ADC #$nn. -/
def execAdcImm (v : Byte) (s : State) : Outcome := .next (adc Config.params (.imm v) s)

/-- R171 `0x6D` ADC $nnnn. -/
def execAdcAbs (w : Word) (s : State) : Outcome := .next (adc Config.params (.data (.abs w)) s)

/-- R171 `0x71` ADC ($nn),Y. -/
def execAdcIndY (b : Byte) (s : State) : Outcome := .next (adc Config.params (.data (.indY b)) s)

/-- R171 `0x72` ADC ($nn). -/
def execAdcIndZp (b : Byte) (s : State) : Outcome := .next (adc Config.params (.data (.indZp b)) s)

/-- R171 `0x75` ADC $nn,X. -/
def execAdcZpX (b : Byte) (s : State) : Outcome := .next (adc Config.params (.data (.zpX b)) s)

/-- R171 `0x79` ADC $nnnn,Y. -/
def execAdcAbsY (w : Word) (s : State) : Outcome := .next (adc Config.params (.data (.absY w)) s)

/-- R171 `0x7D` ADC $nnnn,X. -/
def execAdcAbsX (w : Word) (s : State) : Outcome := .next (adc Config.params (.data (.absX w)) s)

/-- R174 `0xE1` SBC ($nn,X). -/
def execSbcIndX (b : Byte) (s : State) : Outcome := .next (sbc Config.params (.data (.indX b)) s)

/-- R174 `0xE5` SBC $nn. -/
def execSbcZp (b : Byte) (s : State) : Outcome := .next (sbc Config.params (.data (.zp b)) s)

/-- R174 `0xE9` SBC #$nn. -/
def execSbcImm (v : Byte) (s : State) : Outcome := .next (sbc Config.params (.imm v) s)

/-- R174 `0xED` SBC $nnnn. -/
def execSbcAbs (w : Word) (s : State) : Outcome := .next (sbc Config.params (.data (.abs w)) s)

/-- R174 `0xF1` SBC ($nn),Y. -/
def execSbcIndY (b : Byte) (s : State) : Outcome := .next (sbc Config.params (.data (.indY b)) s)

/-- R174 `0xF2` SBC ($nn). -/
def execSbcIndZp (b : Byte) (s : State) : Outcome := .next (sbc Config.params (.data (.indZp b)) s)

/-- R174 `0xF5` SBC $nn,X. -/
def execSbcZpX (b : Byte) (s : State) : Outcome := .next (sbc Config.params (.data (.zpX b)) s)

/-- R174 `0xF9` SBC $nnnn,Y. -/
def execSbcAbsY (w : Word) (s : State) : Outcome := .next (sbc Config.params (.data (.absY w)) s)

/-- R174 `0xFD` SBC $nnnn,X. -/
def execSbcAbsX (w : Word) (s : State) : Outcome := .next (sbc Config.params (.data (.absX w)) s)

/-- R180 `0xC1` CMP ($nn,X). -/
def execCmpIndX (b : Byte) (s : State) : Outcome := .next (compareA Config.params (.data (.indX b)) s)

/-- R180 `0xC5` CMP $nn. -/
def execCmpZp (b : Byte) (s : State) : Outcome := .next (compareA Config.params (.data (.zp b)) s)

/-- R180 `0xC9` CMP #$nn. -/
def execCmpImm (v : Byte) (s : State) : Outcome := .next (compareA Config.params (.imm v) s)

/-- R180 `0xCD` CMP $nnnn. -/
def execCmpAbs (w : Word) (s : State) : Outcome := .next (compareA Config.params (.data (.abs w)) s)

/-- R180 `0xD1` CMP ($nn),Y. -/
def execCmpIndY (b : Byte) (s : State) : Outcome := .next (compareA Config.params (.data (.indY b)) s)

/-- R180 `0xD2` CMP ($nn). -/
def execCmpIndZp (b : Byte) (s : State) : Outcome := .next (compareA Config.params (.data (.indZp b)) s)

/-- R180 `0xD5` CMP $nn,X. -/
def execCmpZpX (b : Byte) (s : State) : Outcome := .next (compareA Config.params (.data (.zpX b)) s)

/-- R180 `0xD9` CMP $nnnn,Y. -/
def execCmpAbsY (w : Word) (s : State) : Outcome := .next (compareA Config.params (.data (.absY w)) s)

/-- R180 `0xDD` CMP $nnnn,X. -/
def execCmpAbsX (w : Word) (s : State) : Outcome := .next (compareA Config.params (.data (.absX w)) s)

/-- R181 `0xE0` CPX #$nn. -/
def execCpxImm (v : Byte) (s : State) : Outcome := .next (compareX Config.params (.imm v) s)

/-- R181 `0xE4` CPX $nn. -/
def execCpxZp (b : Byte) (s : State) : Outcome := .next (compareX Config.params (.data (.zp b)) s)

/-- R181 `0xEC` CPX $nnnn. -/
def execCpxAbs (w : Word) (s : State) : Outcome := .next (compareX Config.params (.data (.abs w)) s)

/-- R182 `0xC0` CPY #$nn. -/
def execCpyImm (v : Byte) (s : State) : Outcome := .next (compareY Config.params (.imm v) s)

/-- R182 `0xC4` CPY $nn. -/
def execCpyZp (b : Byte) (s : State) : Outcome := .next (compareY Config.params (.data (.zp b)) s)

/-- R182 `0xCC` CPY $nnnn. -/
def execCpyAbs (w : Word) (s : State) : Outcome := .next (compareY Config.params (.data (.abs w)) s)

/-- R183 `0xE6` INC $nn. -/
def execIncZp (b : Byte) (s : State) : Outcome := .next (modify Config.params (.zp b) incByte s)

/-- R183 `0xEE` INC $nnnn. -/
def execIncAbs (w : Word) (s : State) : Outcome := .next (modify Config.params (.abs w) incByte s)

/-- R183 `0xF6` INC $nn,X. -/
def execIncZpX (b : Byte) (s : State) : Outcome := .next (modify Config.params (.zpX b) incByte s)

/-- R183 `0xFE` INC $nnnn,X. -/
def execIncAbsX (w : Word) (s : State) : Outcome := .next (modify Config.params (.absX w) incByte s)

/-- R184 `0xC6` DEC $nn. -/
def execDecZp (b : Byte) (s : State) : Outcome := .next (modify Config.params (.zp b) decByte s)

/-- R184 `0xCE` DEC $nnnn. -/
def execDecAbs (w : Word) (s : State) : Outcome := .next (modify Config.params (.abs w) decByte s)

/-- R184 `0xD6` DEC $nn,X. -/
def execDecZpX (b : Byte) (s : State) : Outcome := .next (modify Config.params (.zpX b) decByte s)

/-- R184 `0xDE` DEC $nnnn,X. -/
def execDecAbsX (w : Word) (s : State) : Outcome := .next (modify Config.params (.absX w) decByte s)

/-- R185 `0xE8` INX. -/
def execInx (s : State) : Outcome := .next ((s.setX (s.x + 1)).setNZ (s.x + 1))

/-- R186 `0xC8` INY. -/
def execIny (s : State) : Outcome := .next ((s.setY (s.y + 1)).setNZ (s.y + 1))

/-- R187 `0xCA` DEX. -/
def execDex (s : State) : Outcome := .next ((s.setX (s.x - 1)).setNZ (s.x - 1))

/-- R188 `0x88` DEY. -/
def execDey (s : State) : Outcome := .next ((s.setY (s.y - 1)).setNZ (s.y - 1))

end Sys2Proof.Machine
end

