-- ==== Sys2Proof/Machine/BranchJump.lean ====
section
/-! DEFINITION. Branches and jumps (44_branch_jump.md R230–R241): one meaning per row of the opcode table. PC is already past the instruction. -/

namespace Sys2Proof.Machine

/-- R135, R136, R240: PC is loaded from the pointer at `a`. -/
def jumpThrough (c : Params) (a : Nat) (s : State) : State :=
  let r := read16 c a s
  r.2.setPc r.1

/-- R231 `0x10` BPL label. -/
def execBpl (d : Byte) (s : State) : Outcome := .next (branch (!s.p.n) d s)

/-- R232 `0x30` BMI label. -/
def execBmi (d : Byte) (s : State) : Outcome := .next (branch s.p.n d s)

/-- R233 `0x50` BVC label. -/
def execBvc (d : Byte) (s : State) : Outcome := .next (branch (!s.p.v) d s)

/-- R234 `0x70` BVS label. -/
def execBvs (d : Byte) (s : State) : Outcome := .next (branch s.p.v d s)

/-- R235 `0x90` BCC label. -/
def execBcc (d : Byte) (s : State) : Outcome := .next (branch (!s.p.c) d s)

/-- R236 `0xB0` BCS label. -/
def execBcs (d : Byte) (s : State) : Outcome := .next (branch s.p.c d s)

/-- R237 `0xD0` BNE label. -/
def execBne (d : Byte) (s : State) : Outcome := .next (branch (!s.p.z) d s)

/-- R238 `0xF0` BEQ label. -/
def execBeq (d : Byte) (s : State) : Outcome := .next (branch s.p.z d s)

/-- R239 `0x80` BRA label. -/
def execBra (d : Byte) (s : State) : Outcome := .next (branch true d s)

/-- R240 `0x4C` JMP $nnnn. -/
def execJmpAbs (w : Word) (s : State) : Outcome := .next (s.setPc w)

/-- R240 `0x6C` JMP ($nnnn). -/
def execJmpInd (w : Word) (s : State) : Outcome := .next (jumpThrough Config.params w.toNat s)

/-- R240 `0x7C` JMP ($nnnn,X). -/
def execJmpAbsIndX (w : Word) (s : State) : Outcome := .next (jumpThrough Config.params (overflowAddr Config.params (w.toNat + s.x.toNat)) s)

end Sys2Proof.Machine
end

