-- ==== Sys2Proof/Machine/FlagSystem.lean ====
section
/-! DEFINITION. Flag instructions, NOP, BRK, RTI and the illegal opcodes (46_flags_system.md R270–R290): one meaning per row of the opcode table. PC is already past the instruction. -/

namespace Sys2Proof.Machine

/-- R270 `0x18` CLC. -/
def execClc (s : State) : Outcome := .next (s.setP { s.p with c := false })

/-- R271 `0x38` SEC. -/
def execSec (s : State) : Outcome := .next (s.setP { s.p with c := true })

/-- R272 `0x58` CLI. -/
def execCli (s : State) : Outcome := .next (s.setP { s.p with i := false })

/-- R273 `0x78` SEI. -/
def execSei (s : State) : Outcome := .next (s.setP { s.p with i := true })

/-- R274 `0xD8` CLD. -/
def execCld (s : State) : Outcome := .next (s.setP { s.p with d := false })

/-- R275 `0xF8` SED. -/
def execSed (s : State) : Outcome := .next (s.setP { s.p with d := true })

/-- R276 `0xB8` CLV. -/
def execClv (s : State) : Outcome := .next (s.setP { s.p with v := false })

/-- R277 `0xEA` NOP. -/
def execNop (s : State) : Outcome := .next s

/-- R278 `0x00` BRK. -/
def execBrk (s : State) : Outcome := .next (enterInterrupt Config.params (s.pc + 1) true s)

/-- R279 `0x40` RTI. -/
def execRti (s : State) : Outcome := .next (returnFromInterrupt s)

/-- R290: each of the 78 illegal-halt slots halts; PC is at the illegal byte (Fetch.lean). The byte itself has no effect. -/
def execIllegal (_op : Byte) (s : State) : Outcome := .next s.halt

end Sys2Proof.Machine
end

