-- ==== Sys2Proof/Machine/LoadStore.lean ====
section
/-! DEFINITION. Loads, stores and register transfers (41_load_store_transfer.md R150–R161): one meaning per row of the opcode table. PC is already past the instruction. -/

namespace Sys2Proof.Machine

/-- R150, LDA: `v <- LoadOperand(o); A <- v; setNZ(v)`. -/
def lda (c : Params) (o : ReadOperand) : State → State := withOperand c o fun v s => (s.setA v).setNZ v

/-- R151, LDX. -/
def ldx (c : Params) (o : ReadOperand) : State → State := withOperand c o fun v s => (s.setX v).setNZ v

/-- R152, LDY. -/
def ldy (c : Params) (o : ReadOperand) : State → State := withOperand c o fun v s => (s.setY v).setNZ v

/-- R150 `0xA1` LDA ($nn,X). -/
def execLdaIndX (b : Byte) (s : State) : Outcome := .next (lda Config.params (.data (.indX b)) s)

/-- R150 `0xA5` LDA $nn. -/
def execLdaZp (b : Byte) (s : State) : Outcome := .next (lda Config.params (.data (.zp b)) s)

/-- R150 `0xA9` LDA #$nn. -/
def execLdaImm (v : Byte) (s : State) : Outcome := .next (lda Config.params (.imm v) s)

/-- R150 `0xAD` LDA $nnnn. -/
def execLdaAbs (w : Word) (s : State) : Outcome := .next (lda Config.params (.data (.abs w)) s)

/-- R150 `0xB1` LDA ($nn),Y. -/
def execLdaIndY (b : Byte) (s : State) : Outcome := .next (lda Config.params (.data (.indY b)) s)

/-- R150 `0xB2` LDA ($nn). -/
def execLdaIndZp (b : Byte) (s : State) : Outcome := .next (lda Config.params (.data (.indZp b)) s)

/-- R150 `0xB5` LDA $nn,X. -/
def execLdaZpX (b : Byte) (s : State) : Outcome := .next (lda Config.params (.data (.zpX b)) s)

/-- R150 `0xB9` LDA $nnnn,Y. -/
def execLdaAbsY (w : Word) (s : State) : Outcome := .next (lda Config.params (.data (.absY w)) s)

/-- R150 `0xBD` LDA $nnnn,X. -/
def execLdaAbsX (w : Word) (s : State) : Outcome := .next (lda Config.params (.data (.absX w)) s)

/-- R151 `0xA2` LDX #$nn. -/
def execLdxImm (v : Byte) (s : State) : Outcome := .next (ldx Config.params (.imm v) s)

/-- R151 `0xA6` LDX $nn. -/
def execLdxZp (b : Byte) (s : State) : Outcome := .next (ldx Config.params (.data (.zp b)) s)

/-- R151 `0xAE` LDX $nnnn. -/
def execLdxAbs (w : Word) (s : State) : Outcome := .next (ldx Config.params (.data (.abs w)) s)

/-- R151 `0xB6` LDX $nn,Y. -/
def execLdxZpY (b : Byte) (s : State) : Outcome := .next (ldx Config.params (.data (.zpY b)) s)

/-- R151 `0xBE` LDX $nnnn,Y. -/
def execLdxAbsY (w : Word) (s : State) : Outcome := .next (ldx Config.params (.data (.absY w)) s)

/-- R152 `0xA0` LDY #$nn. -/
def execLdyImm (v : Byte) (s : State) : Outcome := .next (ldy Config.params (.imm v) s)

/-- R152 `0xA4` LDY $nn. -/
def execLdyZp (b : Byte) (s : State) : Outcome := .next (ldy Config.params (.data (.zp b)) s)

/-- R152 `0xAC` LDY $nnnn. -/
def execLdyAbs (w : Word) (s : State) : Outcome := .next (ldy Config.params (.data (.abs w)) s)

/-- R152 `0xB4` LDY $nn,X. -/
def execLdyZpX (b : Byte) (s : State) : Outcome := .next (ldy Config.params (.data (.zpX b)) s)

/-- R152 `0xBC` LDY $nnnn,X. -/
def execLdyAbsX (w : Word) (s : State) : Outcome := .next (ldy Config.params (.data (.absX w)) s)

/-- R153 `0x81` STA ($nn,X). -/
def execStaIndX (b : Byte) (s : State) : Outcome := .next (store Config.params (.indX b) s.a s)

/-- R153 `0x85` STA $nn. -/
def execStaZp (b : Byte) (s : State) : Outcome := .next (store Config.params (.zp b) s.a s)

/-- R153 `0x8D` STA $nnnn. -/
def execStaAbs (w : Word) (s : State) : Outcome := .next (store Config.params (.abs w) s.a s)

/-- R153 `0x91` STA ($nn),Y. -/
def execStaIndY (b : Byte) (s : State) : Outcome := .next (store Config.params (.indY b) s.a s)

/-- R153 `0x92` STA ($nn). -/
def execStaIndZp (b : Byte) (s : State) : Outcome := .next (store Config.params (.indZp b) s.a s)

/-- R153 `0x95` STA $nn,X. -/
def execStaZpX (b : Byte) (s : State) : Outcome := .next (store Config.params (.zpX b) s.a s)

/-- R153 `0x99` STA $nnnn,Y. -/
def execStaAbsY (w : Word) (s : State) : Outcome := .next (store Config.params (.absY w) s.a s)

/-- R153 `0x9D` STA $nnnn,X. -/
def execStaAbsX (w : Word) (s : State) : Outcome := .next (store Config.params (.absX w) s.a s)

/-- R154 `0x86` STX $nn. -/
def execStxZp (b : Byte) (s : State) : Outcome := .next (store Config.params (.zp b) s.x s)

/-- R154 `0x8E` STX $nnnn. -/
def execStxAbs (w : Word) (s : State) : Outcome := .next (store Config.params (.abs w) s.x s)

/-- R154 `0x96` STX $nn,Y. -/
def execStxZpY (b : Byte) (s : State) : Outcome := .next (store Config.params (.zpY b) s.x s)

/-- R155 `0x84` STY $nn. -/
def execStyZp (b : Byte) (s : State) : Outcome := .next (store Config.params (.zp b) s.y s)

/-- R155 `0x8C` STY $nnnn. -/
def execStyAbs (w : Word) (s : State) : Outcome := .next (store Config.params (.abs w) s.y s)

/-- R155 `0x94` STY $nn,X. -/
def execStyZpX (b : Byte) (s : State) : Outcome := .next (store Config.params (.zpX b) s.y s)

/-- R156 `0xAA` TAX. -/
def execTax (s : State) : Outcome := .next ((s.setX s.a).setNZ s.a)

/-- R157 `0xA8` TAY. -/
def execTay (s : State) : Outcome := .next ((s.setY s.a).setNZ s.a)

/-- R158 `0x8A` TXA. -/
def execTxa (s : State) : Outcome := .next ((s.setA s.x).setNZ s.x)

/-- R159 `0x98` TYA. -/
def execTya (s : State) : Outcome := .next ((s.setA s.y).setNZ s.y)

/-- R160 `0xBA` TSX. -/
def execTsx (s : State) : Outcome := .next ((s.setX s.sp).setNZ s.sp)

/-- R161 `0x9A` TXS. -/
def execTxs (s : State) : Outcome := .next (s.setSp s.x)

end Sys2Proof.Machine
end

