-- ==== Sys2Proof/Machine/LogicShift.lean ====
section
/-! DEFINITION. Logical, shift, rotate and bit-test instructions (43_logic_shift_bit.md R200–R210): one meaning per row of the opcode table. PC is already past the instruction. -/

namespace Sys2Proof.Machine

/-- R201, AND. -/
def andA (c : Params) (o : ReadOperand) : State → State :=
  withOperand c o fun m s => (s.setA (s.a &&& m)).setNZ (s.a &&& m)

/-- R202, ORA. -/
def oraA (c : Params) (o : ReadOperand) : State → State :=
  withOperand c o fun m s => (s.setA (s.a ||| m)).setNZ (s.a ||| m)

/-- R203, EOR. -/
def eorA (c : Params) (o : ReadOperand) : State → State :=
  withOperand c o fun m s => (s.setA (s.a ^^^ m)).setNZ (s.a ^^^ m)

/-- R204, BIT. -/
def bitA (c : Params) (o : ReadOperand) : State → State := withOperand c o fun m s => s.setP (s.p.bitTest s.a m)

/-- R201 `0x21` AND ($nn,X). -/
def execAndIndX (b : Byte) (s : State) : Outcome := .next (andA Config.params (.data (.indX b)) s)

/-- R201 `0x25` AND $nn. -/
def execAndZp (b : Byte) (s : State) : Outcome := .next (andA Config.params (.data (.zp b)) s)

/-- R201 `0x29` AND #$nn. -/
def execAndImm (v : Byte) (s : State) : Outcome := .next (andA Config.params (.imm v) s)

/-- R201 `0x2D` AND $nnnn. -/
def execAndAbs (w : Word) (s : State) : Outcome := .next (andA Config.params (.data (.abs w)) s)

/-- R201 `0x31` AND ($nn),Y. -/
def execAndIndY (b : Byte) (s : State) : Outcome := .next (andA Config.params (.data (.indY b)) s)

/-- R201 `0x32` AND ($nn). -/
def execAndIndZp (b : Byte) (s : State) : Outcome := .next (andA Config.params (.data (.indZp b)) s)

/-- R201 `0x35` AND $nn,X. -/
def execAndZpX (b : Byte) (s : State) : Outcome := .next (andA Config.params (.data (.zpX b)) s)

/-- R201 `0x39` AND $nnnn,Y. -/
def execAndAbsY (w : Word) (s : State) : Outcome := .next (andA Config.params (.data (.absY w)) s)

/-- R201 `0x3D` AND $nnnn,X. -/
def execAndAbsX (w : Word) (s : State) : Outcome := .next (andA Config.params (.data (.absX w)) s)

/-- R202 `0x01` ORA ($nn,X). -/
def execOraIndX (b : Byte) (s : State) : Outcome := .next (oraA Config.params (.data (.indX b)) s)

/-- R202 `0x05` ORA $nn. -/
def execOraZp (b : Byte) (s : State) : Outcome := .next (oraA Config.params (.data (.zp b)) s)

/-- R202 `0x09` ORA #$nn. -/
def execOraImm (v : Byte) (s : State) : Outcome := .next (oraA Config.params (.imm v) s)

/-- R202 `0x0D` ORA $nnnn. -/
def execOraAbs (w : Word) (s : State) : Outcome := .next (oraA Config.params (.data (.abs w)) s)

/-- R202 `0x11` ORA ($nn),Y. -/
def execOraIndY (b : Byte) (s : State) : Outcome := .next (oraA Config.params (.data (.indY b)) s)

/-- R202 `0x12` ORA ($nn). -/
def execOraIndZp (b : Byte) (s : State) : Outcome := .next (oraA Config.params (.data (.indZp b)) s)

/-- R202 `0x15` ORA $nn,X. -/
def execOraZpX (b : Byte) (s : State) : Outcome := .next (oraA Config.params (.data (.zpX b)) s)

/-- R202 `0x19` ORA $nnnn,Y. -/
def execOraAbsY (w : Word) (s : State) : Outcome := .next (oraA Config.params (.data (.absY w)) s)

/-- R202 `0x1D` ORA $nnnn,X. -/
def execOraAbsX (w : Word) (s : State) : Outcome := .next (oraA Config.params (.data (.absX w)) s)

/-- R203 `0x41` EOR ($nn,X). -/
def execEorIndX (b : Byte) (s : State) : Outcome := .next (eorA Config.params (.data (.indX b)) s)

/-- R203 `0x45` EOR $nn. -/
def execEorZp (b : Byte) (s : State) : Outcome := .next (eorA Config.params (.data (.zp b)) s)

/-- R203 `0x49` EOR #$nn. -/
def execEorImm (v : Byte) (s : State) : Outcome := .next (eorA Config.params (.imm v) s)

/-- R203 `0x4D` EOR $nnnn. -/
def execEorAbs (w : Word) (s : State) : Outcome := .next (eorA Config.params (.data (.abs w)) s)

/-- R203 `0x51` EOR ($nn),Y. -/
def execEorIndY (b : Byte) (s : State) : Outcome := .next (eorA Config.params (.data (.indY b)) s)

/-- R203 `0x52` EOR ($nn). -/
def execEorIndZp (b : Byte) (s : State) : Outcome := .next (eorA Config.params (.data (.indZp b)) s)

/-- R203 `0x55` EOR $nn,X. -/
def execEorZpX (b : Byte) (s : State) : Outcome := .next (eorA Config.params (.data (.zpX b)) s)

/-- R203 `0x59` EOR $nnnn,Y. -/
def execEorAbsY (w : Word) (s : State) : Outcome := .next (eorA Config.params (.data (.absY w)) s)

/-- R203 `0x5D` EOR $nnnn,X. -/
def execEorAbsX (w : Word) (s : State) : Outcome := .next (eorA Config.params (.data (.absX w)) s)

/-- R204 `0x24` BIT $nn. -/
def execBitZp (b : Byte) (s : State) : Outcome := .next (bitA Config.params (.data (.zp b)) s)

/-- R204 `0x2C` BIT $nnnn. -/
def execBitAbs (w : Word) (s : State) : Outcome := .next (bitA Config.params (.data (.abs w)) s)

/-- R205 `0x06` ASL $nn. -/
def execAslZp (b : Byte) (s : State) : Outcome := .next (modify Config.params (.zp b) aslByte s)

/-- R205 `0x0A` ASL A. -/
def execAslA (s : State) : Outcome := .next (modifyA aslByte s)

/-- R205 `0x0E` ASL $nnnn. -/
def execAslAbs (w : Word) (s : State) : Outcome := .next (modify Config.params (.abs w) aslByte s)

/-- R205 `0x16` ASL $nn,X. -/
def execAslZpX (b : Byte) (s : State) : Outcome := .next (modify Config.params (.zpX b) aslByte s)

/-- R205 `0x1E` ASL $nnnn,X. -/
def execAslAbsX (w : Word) (s : State) : Outcome := .next (modify Config.params (.absX w) aslByte s)

/-- R206 `0x46` LSR $nn. -/
def execLsrZp (b : Byte) (s : State) : Outcome := .next (modify Config.params (.zp b) lsrByte s)

/-- R206 `0x4A` LSR A. -/
def execLsrA (s : State) : Outcome := .next (modifyA lsrByte s)

/-- R206 `0x4E` LSR $nnnn. -/
def execLsrAbs (w : Word) (s : State) : Outcome := .next (modify Config.params (.abs w) lsrByte s)

/-- R206 `0x56` LSR $nn,X. -/
def execLsrZpX (b : Byte) (s : State) : Outcome := .next (modify Config.params (.zpX b) lsrByte s)

/-- R206 `0x5E` LSR $nnnn,X. -/
def execLsrAbsX (w : Word) (s : State) : Outcome := .next (modify Config.params (.absX w) lsrByte s)

/-- R207 `0x26` ROL $nn. -/
def execRolZp (b : Byte) (s : State) : Outcome := .next (modify Config.params (.zp b) rolByte s)

/-- R207 `0x2A` ROL A. -/
def execRolA (s : State) : Outcome := .next (modifyA rolByte s)

/-- R207 `0x2E` ROL $nnnn. -/
def execRolAbs (w : Word) (s : State) : Outcome := .next (modify Config.params (.abs w) rolByte s)

/-- R207 `0x36` ROL $nn,X. -/
def execRolZpX (b : Byte) (s : State) : Outcome := .next (modify Config.params (.zpX b) rolByte s)

/-- R207 `0x3E` ROL $nnnn,X. -/
def execRolAbsX (w : Word) (s : State) : Outcome := .next (modify Config.params (.absX w) rolByte s)

/-- R208 `0x66` ROR $nn. -/
def execRorZp (b : Byte) (s : State) : Outcome := .next (modify Config.params (.zp b) rorByte s)

/-- R208 `0x6A` ROR A. -/
def execRorA (s : State) : Outcome := .next (modifyA rorByte s)

/-- R208 `0x6E` ROR $nnnn. -/
def execRorAbs (w : Word) (s : State) : Outcome := .next (modify Config.params (.abs w) rorByte s)

/-- R208 `0x76` ROR $nn,X. -/
def execRorZpX (b : Byte) (s : State) : Outcome := .next (modify Config.params (.zpX b) rorByte s)

/-- R208 `0x7E` ROR $nnnn,X. -/
def execRorAbsX (w : Word) (s : State) : Outcome := .next (modify Config.params (.absX w) rorByte s)

/-- R209 `0x04` TSB $nn. -/
def execTsbZp (b : Byte) (s : State) : Outcome := .next (modify Config.params (.zp b) (tsbByte s.a) s)

/-- R209 `0x0C` TSB $nnnn. -/
def execTsbAbs (w : Word) (s : State) : Outcome := .next (modify Config.params (.abs w) (tsbByte s.a) s)

/-- R210 `0x14` TRB $nn. -/
def execTrbZp (b : Byte) (s : State) : Outcome := .next (modify Config.params (.zp b) (trbByte s.a) s)

/-- R210 `0x1C` TRB $nnnn. -/
def execTrbAbs (w : Word) (s : State) : Outcome := .next (modify Config.params (.abs w) (trbByte s.a) s)

end Sys2Proof.Machine
end

