-- ==== Sys2Proof/Machine/Stack.lean ====
section
/-! DEFINITION. Stack and subroutine instructions (45_stack_subroutine.md R254–R259): one meaning per row of the opcode table. PC is already past the instruction. -/

namespace Sys2Proof.Machine

/-- R256, PLA. -/
def pullA (s : State) : State :=
  let r := pop s
  (r.2.setA r.1).setNZ r.1

/-- R257, PLP. -/
def pullP (s : State) : State :=
  let r := pop s
  r.2.setP (Flags.unpack r.1)

/-- R258, JSR: PC, past the operand bytes, minus one is pushed. -/
def jumpSubroutine (c : Params) (w : Word) (s : State) : State := (push16 c (s.pc - 1) s).setPc w

/-- R259, RTS: "`RTS` pops and adds 1". -/
def returnSubroutine (s : State) : State :=
  let r := pop16 s
  r.2.setPc (r.1 + 1)

/-- R254 `0x48` PHA. -/
def execPha (s : State) : Outcome := .next (push Config.params s.a s)

/-- R255 `0x08` PHP. -/
def execPhp (s : State) : Outcome := .next (push Config.params (s.p.pack true) s)

/-- R256 `0x68` PLA. -/
def execPla (s : State) : Outcome := .next (pullA s)

/-- R257 `0x28` PLP. -/
def execPlp (s : State) : Outcome := .next (pullP s)

/-- R258 `0x20` JSR $nnnn. -/
def execJsr (w : Word) (s : State) : Outcome := .next (jumpSubroutine Config.params w s)

/-- R259 `0x60` RTS. -/
def execRts (s : State) : Outcome := .next (returnSubroutine s)

end Sys2Proof.Machine
end

