-- ==== Sys2Proof/Machine/Unsettled.lean ====
section
/-! DEFINITION. The 13 unsettled 65C02 slots (46_flags_system.md R291). PC is past the instruction under `c02` and at it under `halt` (Fetch.lean): one meaning per row of the opcode table. -/

namespace Sys2Proof.Machine

/-- R291: an unsettled slot halts as R290 or does `f`, as `UnnamedC02Slot` says. -/
def unsettledSlot (c : Params) (f : State → State) (s : State) : State :=
  match c.unnamedC02Slot with
  | .halt => s.halt
  | .c02 => f s

/-- R291, PLX: as PLA (R256) into X. -/
def pullX (s : State) : State :=
  let r := pop s
  (r.2.setX r.1).setNZ r.1

/-- R291, PLY: as PLA (R256) into Y. -/
def pullY (s : State) : State :=
  let r := pop s
  (r.2.setY r.1).setNZ r.1

/-- R291, BIT #. -/
def bitImmA (m : Byte) (s : State) : State := s.setP (s.p.bitTestImm s.a m)

/-- R291 `0x1A` INC A. -/
def execUnsettledIncA (s : State) : Outcome := .next (unsettledSlot Config.params (modifyA incByte) s)

/-- R291 `0x34` BIT zp,X. -/
def execUnsettledBitZpX (b : Byte) (s : State) : Outcome := .next (unsettledSlot Config.params (bitA Config.params (.data (.zpX b))) s)

/-- R291 `0x3A` DEC A. -/
def execUnsettledDecA (s : State) : Outcome := .next (unsettledSlot Config.params (modifyA decByte) s)

/-- R291 `0x3C` BIT abs,X. -/
def execUnsettledBitAbsX (w : Word) (s : State) : Outcome := .next (unsettledSlot Config.params (bitA Config.params (.data (.absX w))) s)

/-- R291 `0x5A` PHY. -/
def execUnsettledPhy (s : State) : Outcome := .next (unsettledSlot Config.params (fun t => push Config.params t.y t) s)

/-- R291 `0x64` STZ zp. -/
def execUnsettledStzZp (b : Byte) (s : State) : Outcome := .next (unsettledSlot Config.params (store Config.params (.zp b) 0) s)

/-- R291 `0x74` STZ zp,X. -/
def execUnsettledStzZpX (b : Byte) (s : State) : Outcome := .next (unsettledSlot Config.params (store Config.params (.zpX b) 0) s)

/-- R291 `0x7A` PLY. -/
def execUnsettledPly (s : State) : Outcome := .next (unsettledSlot Config.params pullY s)

/-- R291 `0x89` BIT #. -/
def execUnsettledBitImm (v : Byte) (s : State) : Outcome := .next (unsettledSlot Config.params (bitImmA v) s)

/-- R291 `0x9C` STZ abs. -/
def execUnsettledStzAbs (w : Word) (s : State) : Outcome := .next (unsettledSlot Config.params (store Config.params (.abs w) 0) s)

/-- R291 `0x9E` STZ abs,X. -/
def execUnsettledStzAbsX (w : Word) (s : State) : Outcome := .next (unsettledSlot Config.params (store Config.params (.absX w) 0) s)

/-- R291 `0xDA` PHX. -/
def execUnsettledPhx (s : State) : Outcome := .next (unsettledSlot Config.params (fun t => push Config.params t.x t) s)

/-- R291 `0xFA` PLX. -/
def execUnsettledPlx (s : State) : Outcome := .next (unsettledSlot Config.params pullX s)

end Sys2Proof.Machine
end

