-- ==== Sys2Proof/Machine/Fetch.lean ====
section
/-! DEFINITION. Fetching an instruction through the bus (30_encoding.md R103, R104; 20_memory.md R92). -/

namespace Sys2Proof.Machine

/-- PC moves past one byte; it wraps from `0xFFFF` to `0x0000` (R25, R103). -/
def State.advance (s : State) : State := s.setPc (s.pc + 1)

/-- R103, `fetch8()`. -/
def fetchByte (s : State) : Byte × State :=
  let r := busRead s.pc.toNat s
  (r.1, r.2.advance)

/-- R104: how many operand bytes are fetched after the opcode byte `op`; `none` where the opcode halts, and then PC is not even
advanced past it (R290; R291 with `halt`). -/
def operandsFetched (c : Params) (op : Byte) : Option Nat :=
  match (decodeOpcode op 0 0).op with
  | .illegal => none
  | .unsettled => match c.unnamedC02Slot with
    | .halt => none
    | .c02 => some (operandCount op)
  | _ => some (operandCount op)

/-- What a fetch of operand bytes gives; a byte that is not fetched is 0 and no instruction uses it. -/
structure Fetched where
  b1 : Byte
  b2 : Byte
  state : State
  deriving DecidableEq, Repr

/-- R103: the operand bytes in address order, after the opcode. -/
def fetchOperands (n : Option Nat) (s : State) : Fetched :=
  match n with
  | none => ⟨0, 0, s⟩
  | some 0 => ⟨0, 0, s.advance⟩
  | some 1 => let f1 := fetchByte s.advance; ⟨f1.1, 0, f1.2⟩
  | some _ => let f1 := fetchByte s.advance; let f2 := fetchByte f1.2; ⟨f1.1, f2.1, f2.2⟩

/-- R104, the fetch half of `ExecuteOne()`: the instruction at PC and the state in which it is performed. -/
def fetchInstr (c : Params) (s : State) : Instr × State :=
  let o := busRead s.pc.toNat s
  let f := fetchOperands (operandsFetched c o.1) o.2
  (decodeOpcode o.1 f.b1 f.b2, f.state)

end Sys2Proof.Machine
end

