-- ==== Sys2Proof/Machine/Step.lean ====
section
/-! DEFINITION. One step (70_reset_and_hazards.md R352), and a word placed where the next step fetches it. -/

namespace Sys2Proof.Machine

/-- R352: a halted engine does nothing; otherwise the instruction at PC is fetched (R104) and performed. -/
def step (s : State) : Host.Outcome State Fault Refusal :=
  if s.halted then .next s
  else exec (fetchInstr Config.params s).1 (fetchInstr Config.params s).2

/-- `s` with the longest instruction (three bytes) whose bits are the low `nbits` bits of `w` at PC, where `step` fetches it. A
halted engine fetches nothing and the peripheral window holds no program (R53), so `halted` is cleared, and a PC within three
bytes of the window is moved to `Config.resetPC`. -/
def State.withFetchWord (s : State) (nbits w : Nat) : State :=
  let v := w % 2 ^ nbits
  let ok : Bool := isRam s.pc.toNat && isRam (s.pc + 1).toNat && isRam (s.pc + 2).toNat
  let pc : Word := if ok then s.pc else Config.resetPC
  let m := ((s.mem.write pc.toNat (byteOf v 0)).write (pc + 1).toNat (byteOf v 1)).write (pc + 2).toNat (byteOf v 2)
  { s with pc := pc, halted := false, mem := m }

end Sys2Proof.Machine
end

