-- ==== Sys2Proof/Machine/Settings.lean ====
section
/-! DEFINITION. The machine with its parameters as arguments (00_scope.md R8), the value `refuse` among them (R13, R302). Performing
an instruction is written here once for all parameters by its operation and operand, as R104 has it (`Perform(e.operation, operand)`);
Laws/Settings.lean shows that `exec` is this at `Config.params`. -/

namespace Sys2Proof

/-! ### Settings -/

/-- R8: the setting that settles every parameter as `c` does. -/
def Setting.ofParams (c : Params) : Setting where
  unnamedC02Slot := .settled c.unnamedC02Slot
  addrOverflow := .settled c.addrOverflow
  zpPtrWrap := .settled c.zpPtrWrap
  decimalFlags := c.decimalFlags
  decimalInvalid := c.decimalInvalid
  irqPushOffset := c.irqPushOffset
  wr13Event := c.wr13Event

/-- The defaults of 92_eei_decisions.md, "Parameters at a glance". `IrqPushOffset` and `Wr13Event` have none: they must be given. -/
def Setting.default (offset : IrqPushOffset) (wr13 : Wr13Event) : Setting where
  unnamedC02Slot := .refuse
  addrOverflow := .refuse
  zpPtrWrap := .refuse
  decimalFlags := .draw
  decimalInvalid := .draw
  irqPushOffset := offset
  wr13Event := wr13

/-- The behaviour of a parameter, `d` where it is unsettled. -/
def Open.getD {α : Type} (o : Open α) (d : α) : α :=
  match o with
  | .refuse => d
  | .settled v => v

/-- The parameters of a setting, those of `d` where it is unsettled; no step that is not refused depends on them. -/
def Setting.fill (g : Setting) (d : Params) : Params where
  unnamedC02Slot := g.unnamedC02Slot.getD d.unnamedC02Slot
  addrOverflow := g.addrOverflow.getD d.addrOverflow
  zpPtrWrap := g.zpPtrWrap.getD d.zpPtrWrap
  decimalFlags := g.decimalFlags
  decimalInvalid := g.decimalInvalid
  irqPushOffset := g.irqPushOffset
  wr13Event := g.wr13Event

/-- R13: whether a setting leaves the point to a refusal. -/
def Setting.refuses (g : Setting) (u : Machine.Unsettled) : Bool :=
  match u with
  | .unnamedC02Slot => g.unnamedC02Slot == .refuse
  | .addrOverflow => g.addrOverflow == .refuse
  | .zpPtrWrap => g.zpPtrWrap == .refuse

namespace Machine

/-! ### Performing an instruction under any settled parameters -/

/-- An operation that reads one operand byte (R138). No row of the opcode table gives it another operand. -/
def readOp (f : Params → ReadOperand → State → State) (c : Params) (o : Operand) (s : State) : State :=
  match o.read? with
  | some r => f c r s
  | none => s

/-- A store of `v` (R139). -/
def storeOp (c : Params) (o : Operand) (v : Byte) (s : State) : State :=
  match o.data? with
  | some m => store c m v s
  | none => s

/-- A read-modify-write of A or of memory (R140). -/
def modifyOp (c : Params) (o : Operand) (f : Byte → Flags → Byte × Flags) (s : State) : State :=
  match o with
  | .acc => modifyA f s
  | .data m => modify c m f s
  | _ => s

/-- A conditional branch (R230). -/
def branchOp (cond : Bool) (o : Operand) (s : State) : State :=
  match o with
  | .rel d => branch cond d s
  | _ => s

/-- R240: JMP in its three modes. -/
def jumpOp (c : Params) (o : Operand) (s : State) : State :=
  match o with
  | .data (.abs w) => s.setPc w
  | .ind w => jumpThrough c w.toNat s
  | .absIndX w => jumpThrough c (overflowAddr c (w.toNat + s.x.toNat)) s
  | _ => s

/-- R258: JSR. -/
def callOp (c : Params) (o : Operand) (s : State) : State :=
  match o with
  | .data (.abs w) => jumpSubroutine c w s
  | _ => s

/-- R291: what an unsettled slot does under `c02`; the byte alone names the operation. -/
def slotBody (c : Params) (i : Instr) : State → State :=
  match i with
  | .unsettledIncA => modifyA incByte
  | .unsettledDecA => modifyA decByte
  | .unsettledPhx => fun t => push c t.x t
  | .unsettledPhy => fun t => push c t.y t
  | .unsettledPlx => pullX
  | .unsettledPly => pullY
  | .unsettledStzZp b => store c (.zp b) 0
  | .unsettledStzZpX b => store c (.zpX b) 0
  | .unsettledStzAbs w => store c (.abs w) 0
  | .unsettledStzAbsX w => store c (.absX w) 0
  | .unsettledBitZpX b => bitA c (.data (.zpX b))
  | .unsettledBitAbsX w => bitA c (.data (.absX w))
  | .unsettledBitImm v => bitImmA v
  | _ => id

/-- R104, `Perform(e.operation, operand)`: what an instruction makes of the state after its fetch. -/
def perform (c : Params) (i : Instr) (s : State) : State :=
  match i.op with
  | .lda => readOp lda c i.operand s
  | .ldx => readOp ldx c i.operand s
  | .ldy => readOp ldy c i.operand s
  | .sta => storeOp c i.operand s.a s
  | .stx => storeOp c i.operand s.x s
  | .sty => storeOp c i.operand s.y s
  | .tax => (s.setX s.a).setNZ s.a
  | .tay => (s.setY s.a).setNZ s.a
  | .txa => (s.setA s.x).setNZ s.x
  | .tya => (s.setA s.y).setNZ s.y
  | .tsx => (s.setX s.sp).setNZ s.sp
  | .txs => s.setSp s.x
  | .adc => readOp adc c i.operand s
  | .sbc => readOp sbc c i.operand s
  | .cmp => readOp compareA c i.operand s
  | .cpx => readOp compareX c i.operand s
  | .cpy => readOp compareY c i.operand s
  | .inc => modifyOp c i.operand incByte s
  | .dec => modifyOp c i.operand decByte s
  | .inx => (s.setX (s.x + 1)).setNZ (s.x + 1)
  | .iny => (s.setY (s.y + 1)).setNZ (s.y + 1)
  | .dex => (s.setX (s.x - 1)).setNZ (s.x - 1)
  | .dey => (s.setY (s.y - 1)).setNZ (s.y - 1)
  | .and => readOp andA c i.operand s
  | .ora => readOp oraA c i.operand s
  | .eor => readOp eorA c i.operand s
  | .bit => readOp bitA c i.operand s
  | .asl => modifyOp c i.operand aslByte s
  | .lsr => modifyOp c i.operand lsrByte s
  | .rol => modifyOp c i.operand rolByte s
  | .ror => modifyOp c i.operand rorByte s
  | .tsb => modifyOp c i.operand (tsbByte s.a) s
  | .trb => modifyOp c i.operand (trbByte s.a) s
  | .bpl => branchOp (!s.p.n) i.operand s
  | .bmi => branchOp s.p.n i.operand s
  | .bvc => branchOp (!s.p.v) i.operand s
  | .bvs => branchOp s.p.v i.operand s
  | .bcc => branchOp (!s.p.c) i.operand s
  | .bcs => branchOp s.p.c i.operand s
  | .bne => branchOp (!s.p.z) i.operand s
  | .beq => branchOp s.p.z i.operand s
  | .bra => branchOp true i.operand s
  | .jmp => jumpOp c i.operand s
  | .pha => push c s.a s
  | .php => push c (s.p.pack true) s
  | .pla => pullA s
  | .plp => pullP s
  | .jsr => callOp c i.operand s
  | .rts => returnSubroutine s
  | .clc => s.setP { s.p with c := false }
  | .sec => s.setP { s.p with c := true }
  | .cli => s.setP { s.p with i := false }
  | .sei => s.setP { s.p with i := true }
  | .cld => s.setP { s.p with d := false }
  | .sed => s.setP { s.p with d := true }
  | .clv => s.setP { s.p with v := false }
  | .nop => s
  | .brk => enterInterrupt c (s.pc + 1) true s
  | .rti => returnFromInterrupt s
  | .illegal => s.halt
  | .unsettled => unsettledSlot c (slotBody c i) s

/-! ### The unsettled points that an instruction reaches, in the order it reaches them -/

/-- R125: an address sum past `0xFFFF`. -/
def pointsOfSum (n : Nat) : List Unsettled := if n ≤ 0xFFFF then [] else [.addrOverflow]

/-- R126: a zero-page pointer at `0xFF`. -/
def pointsOfPointer (p : Byte) : List Unsettled := if p = 0xFF then [.zpPtrWrap] else []

/-- R125, R126: the points that resolving an operand reaches (R130–R136). -/
def operandPoints (c : Params) (o : Operand) (s : State) : List Unsettled :=
  match o with
  | .data (.absX w) => pointsOfSum (w.toNat + s.x.toNat)
  | .data (.absY w) => pointsOfSum (w.toNat + s.y.toNat)
  | .data (.indX b) => pointsOfPointer (b + s.x)
  | .data (.indY b) => pointsOfPointer b ++ pointsOfSum ((zpPointer c b s).1.toNat + s.y.toNat)
  | .data (.indZp b) => pointsOfPointer b
  | .ind w => pointsOfSum (w.toNat + 1)
  | .absIndX w => let a := w.toNat + s.x.toNat; pointsOfSum a ++ pointsOfSum (overflowAddr c a + 1)
  | .implied | .acc | .imm _ | .rel _ | .data (.zp _) | .data (.zpX _) | .data (.zpY _) | .data (.abs _) => []

/-- R302: the points that performing an instruction reaches. -/
def instrPoints (c : Params) (i : Instr) (s : State) : List Unsettled :=
  if i.op = .unsettled then
    .unnamedC02Slot :: match c.unnamedC02Slot with
      | .halt => []
      | .c02 => operandPoints c i.operand s
  else operandPoints c i.operand s

/-! ### Instructions and steps under a setting -/

/-- R8, R13: an instruction under a setting: the first point it reaches that the setting leaves unsettled refuses it. -/
def execUnder (g : Setting) (i : Instr) (s : State) : Outcome :=
  let c := g.fill Config.params
  match (instrPoints c i s).find? g.refuses with
  | some u => .refused (.unsettled u)
  | none => .next (perform c i s)

/-- R352 under a setting. -/
def stepUnder (g : Setting) (s : State) : Outcome :=
  if s.halted then .next s
  else
    let f := fetchInstr (g.fill Config.params) s
    execUnder g f.1 f.2

end Machine

end Sys2Proof
end

