-- ==== Sys2Proof/Machine/HostOps.lean ====
section
/-! DEFINITION. The host operations (70_reset_and_hazards.md R350): the only inputs of the block, each run between steps (R17). -/

namespace Sys2Proof.Machine

/-- R40: the launch draws of the CPU. -/
structure EngineLaunch where
  a : Byte
  x : Byte
  y : Byte
  sp : Byte
  p : Flags
  deriving DecidableEq, Repr

/-- R40: the launch draws of the whole machine: the CPU's, the launch memory and `InitDisplayLatch`. -/
structure Launch where
  engine : EngineLaunch
  mem : Memory
  dspLatch : Byte
  deriving DecidableEq, Repr

/-- R340, `ResetEngine(ResetPC)`: the CPU takes fresh launch values, memory, keyboard, latch and trace stay (D34). -/
def resetEngine (l : EngineLaunch) (resetPC : Word) (s : State) : State :=
  { s with a := l.a, x := l.x, y := l.y, sp := l.sp, p := l.p, pc := resetPC, halted := false }

/-- R340, `Construct(ResetPC)`: the machine with the launch values `l`. The inactive queue is empty (assumption log 17). -/
def construct (l : Launch) (resetPC : Word) : State :=
  resetEngine l.engine resetPC { State.reset with mem := l.mem, dspLatch := l.dspLatch }

/-- R353: at most `n` steps `f`, none once the halt flag is set; a refusal inside a step ends the batch. -/
def batch (f : State → Outcome) : Nat → State → Outcome
  | 0, s => .next s
  | n + 1, s =>
    if s.halted then .next s
    else match f s with
      | .next t => batch f n t
      | .fault e => .fault e
      | .refused r => .refused r

/-- R353, `runBatch(n)`. -/
def runBatch (n : Nat) (s : State) : Outcome := batch step n s

/-- R353, `runBatch(n)` under a setting. -/
def runBatchUnder (g : Setting) (n : Nat) (s : State) : Outcome := batch (stepUnder g) n s

/-- R313: the return address that the hardware-interrupt entry pushes. -/
def irqReturn (c : Params) (pc : Word) : Word :=
  match c.irqPushOffset with
  | .zero => pc
  | .one => pc + 1

/-- R311, R312, `Irq()`: dropped while I is set, and taken whether or not the engine is halted (D20). `IrqPushedB` is a free value
(R326, D17). -/
def irq (c : Params) (s : State) : State :=
  if s.p.i then s
  else enterInterrupt c (irqReturn c s.pc) (Config.drawBit s.draws) (s.useDraws 1)

/-- R75, `SetKey(k)`. -/
def setKey (k : Byte) (s : State) : State := { s with lastKey := k }

/-- R76: a queue character; LF becomes CR. -/
def keyByte (ch : Nat) : Byte := if ch = 0x0A then 0x0D else BitVec.ofNat 8 ch

/-- R76, `fillKeyBuf(text)`: a character code above `0xFF` is refused. -/
def fillKeyBuf (text : List Nat) (s : State) : Outcome :=
  if text.all (· ≤ 0xFF) then
    .next { s with kq := text.map keyByte, kc := 0, kqActive := !text.isEmpty }
  else .refused .keyCharAboveFF

/-- R78, `loadBinary(data, origin)`: every byte goes through the bus write path of R56; no address wraps. -/
def loadBinary (c : Params) : List Int → Int → State → State
  | [], _, s => s
  | v :: data, origin, s => loadBinary c data (origin + 1) (busWriteChecked c origin v s)

/-- R77, `loadBios(image)`: a 256-entry byte sequence at `0xFF00`. -/
def loadBios (c : Params) (image : Vector Byte 256) (s : State) : State :=
  loadBinary c (image.toList.map fun b => (b.toNat : Int)) 0xFF00 s

/-- R351, D37: a host's diagnostic read of memory reads the array and changes nothing, even at `0xD010`. -/
def peek (a : Nat) (s : State) : Byte := s.mem.read a

/-- R329, R351: the instruction that the disassembler renders at an address, read without side effects. Its text is out of scope
(R6). -/
def disassemble (a : Word) (s : State) : Instr :=
  decodeOpcode (peek a.toNat s) (peek (a + 1).toNat s) (peek (a + 2).toNat s)

/-- R350: what the host can do to the machine. `diagnose` is the state dump, a disassembly, or a read of registers, of memory or
of the halt flag. -/
inductive HostOp where
  | construct (l : Launch) (resetPC : Word)
  | resetEngine (l : EngineLaunch) (resetPC : Word)
  | step
  | runBatch (n : Nat)
  | irq
  | setKey (k : Byte)
  | fillKeyBuf (text : List Nat)
  | loadBios (image : Vector Byte 256)
  | loadBinary (data : List Int) (origin : Int)
  | diagnose

/-- R350: one host operation on the machine with the parameters `c` and the step `f`. The free values used so far stay used when the
machine is constructed anew (assumption log 2). -/
def HostOp.runWith (c : Params) (f : State → Outcome) (op : HostOp) (s : State) : Outcome :=
  match op with
  | .construct l pc => .next { Machine.construct l pc with draws := s.draws }
  | .resetEngine l pc => .next (Machine.resetEngine l pc s)
  | .step => f s
  | .runBatch n => batch f n s
  | .irq => .next (Machine.irq c s)
  | .setKey k => .next (Machine.setKey k s)
  | .fillKeyBuf text => Machine.fillKeyBuf text s
  | .loadBios image => .next (Machine.loadBios c image s)
  | .loadBinary data origin => .next (Machine.loadBinary c data origin s)
  | .diagnose => .next s

/-- R350: one host operation. -/
def HostOp.run (op : HostOp) (s : State) : Outcome := op.runWith Config.params Machine.step s

/-- R350: one host operation under a setting. -/
def HostOp.runUnder (g : Setting) (op : HostOp) (s : State) : Outcome := op.runWith (g.fill Config.params) (stepUnder g) s

/-- R88: "the whole history is one total order of steps and host operations"; a refusal ends it (R353). -/
def history (f : HostOp → State → Outcome) : List HostOp → State → Outcome
  | [], s => .next s
  | op :: ops, s =>
    match f op s with
    | .next t => history f ops t
    | .fault e => .fault e
    | .refused r => .refused r

/-- R88: a history of the machine. -/
def runHistory (ops : List HostOp) (s : State) : Outcome := history HostOp.run ops s

/-- R88: a history under a setting. -/
def runHistoryUnder (g : Setting) (ops : List HostOp) (s : State) : Outcome := history (HostOp.runUnder g) ops s

end Sys2Proof.Machine
end

