-- ==== Sys2Proof/Safety.lean ====
section
/-! DEFINITION. The terms that claims about runs use: the invariant of the state, what a bus access may change, and how a run
ends. -/

namespace Sys2Proof.Machine

/-- R60: `kqActive = 1` implies `kc < length(kq)`. -/
def State.queueOk (s : State) : Bool := !s.kqActive || decide (s.kc < s.kq.length)

/-- The invariant: memory has its one canonical form and an active keyboard queue has a byte left (R60). -/
def State.Inv (s : State) : Prop := s.mem.wf = true ∧ s.queueOk = true

/-- What reads through the bus may change (R55, R66): the keyboard's scalar key, the queue's cursor and activity, and events
appended to the trace; PC is left out, since a fetch moves it. -/
structure ReadFrame (s t : State) : Prop where
  a : t.a = s.a
  x : t.x = s.x
  y : t.y = s.y
  sp : t.sp = s.sp
  p : t.p = s.p
  halted : t.halted = s.halted
  mem : t.mem = s.mem
  kq : t.kq = s.kq
  dspLatch : t.dspLatch = s.dspLatch
  draws : t.draws = s.draws
  trace : ∃ evs, t.trace = s.trace ++ evs

/-- R360: how a run ends. -/
inductive RunEnd where
  | halted                      -- case 1
  | refused (r : Refusal)       -- case 2
  | faulted (f : Fault)         -- no run ends so
  | pcStopped                   -- case 3: a step left PC unchanged
  | budget                      -- case 4
  deriving DecidableEq, Repr

/-- R360: a run of at most `budget` steps `f`: why it ended, the state it ended in and how many steps it took. -/
def endOfRun (f : State → Outcome) : Nat → State → RunEnd × State × Nat
  | 0, s => (.budget, s, 0)
  | n + 1, s =>
    match f s with
    | .fault e => (.faulted e, s, 0)
    | .refused r => (.refused r, s, 0)
    | .next t =>
      if t.halted then (.halted, t, 1)
      else if t.pc = s.pc then (.pcStopped, t, 1)
      else let e := endOfRun f n t; (e.1, e.2.1, e.2.2 + 1)

/-- R360: a run of the machine. -/
def runToEnd (budget : Nat) (s : State) : RunEnd × State × Nat := endOfRun step budget s

/-- R360: a run under a setting, which case 2 may end. -/
def runToEndUnder (g : Setting) (budget : Nat) (s : State) : RunEnd × State × Nat := endOfRun (stepUnder g) budget s

/-- A run of `n` steps that neither faults nor is refused. -/
def SafeRun (n : Nat) (s : State) : Prop := ∃ t, core.run n s = .next t

/-! ### Terms of the statements: readings of the rules in plain arithmetic, apart from the meanings -/

/-- The shape of an operand: its addressing mode with the operand bytes zero. -/
def shape : Operand → Operand
  | .implied => .implied
  | .acc => .acc
  | .imm _ => .imm 0
  | .rel _ => .rel 0
  | .ind _ => .ind 0
  | .absIndX _ => .absIndX 0
  | .data (.zp _) => .data (.zp 0)
  | .data (.zpX _) => .data (.zpX 0)
  | .data (.zpY _) => .data (.zpY 0)
  | .data (.abs _) => .data (.abs 0)
  | .data (.absX _) => .data (.absX 0)
  | .data (.absY _) => .data (.absY 0)
  | .data (.indX _) => .data (.indX 0)
  | .data (.indY _) => .data (.indY 0)
  | .data (.indZp _) => .data (.indZp 0)

/-- The lines "Operands" and "Encoding" of the instruction rules R150–R279: the modes of each instruction and their opcode bytes. -/
def ruleForms : Op → List (Operand × Byte)
  | .lda => [
      (.imm 0, 0xA9), (.data (.zp 0), 0xA5), (.data (.zpX 0), 0xB5), (.data (.abs 0), 0xAD), (.data (.absX 0), 0xBD),
      (.data (.absY 0), 0xB9), (.data (.indX 0), 0xA1), (.data (.indY 0), 0xB1), (.data (.indZp 0), 0xB2)]
  | .ldx => [
      (.imm 0, 0xA2), (.data (.zp 0), 0xA6), (.data (.zpY 0), 0xB6), (.data (.abs 0), 0xAE),
      (.data (.absY 0), 0xBE)]
  | .ldy => [
      (.imm 0, 0xA0), (.data (.zp 0), 0xA4), (.data (.zpX 0), 0xB4), (.data (.abs 0), 0xAC),
      (.data (.absX 0), 0xBC)]
  | .sta => [
      (.data (.zp 0), 0x85), (.data (.zpX 0), 0x95), (.data (.abs 0), 0x8D), (.data (.absX 0), 0x9D), (.data (.absY 0), 0x99),
      (.data (.indX 0), 0x81), (.data (.indY 0), 0x91), (.data (.indZp 0), 0x92)]
  | .stx => [(.data (.zp 0), 0x86), (.data (.zpY 0), 0x96), (.data (.abs 0), 0x8E)]
  | .sty => [(.data (.zp 0), 0x84), (.data (.zpX 0), 0x94), (.data (.abs 0), 0x8C)]
  | .tax => [(.implied, 0xAA)]
  | .tay => [(.implied, 0xA8)]
  | .txa => [(.implied, 0x8A)]
  | .tya => [(.implied, 0x98)]
  | .tsx => [(.implied, 0xBA)]
  | .txs => [(.implied, 0x9A)]
  | .adc => [
      (.imm 0, 0x69), (.data (.zp 0), 0x65), (.data (.zpX 0), 0x75), (.data (.abs 0), 0x6D), (.data (.absX 0), 0x7D),
      (.data (.absY 0), 0x79), (.data (.indX 0), 0x61), (.data (.indY 0), 0x71), (.data (.indZp 0), 0x72)]
  | .sbc => [
      (.imm 0, 0xE9), (.data (.zp 0), 0xE5), (.data (.zpX 0), 0xF5), (.data (.abs 0), 0xED), (.data (.absX 0), 0xFD),
      (.data (.absY 0), 0xF9), (.data (.indX 0), 0xE1), (.data (.indY 0), 0xF1), (.data (.indZp 0), 0xF2)]
  | .cmp => [
      (.imm 0, 0xC9), (.data (.zp 0), 0xC5), (.data (.zpX 0), 0xD5), (.data (.abs 0), 0xCD), (.data (.absX 0), 0xDD),
      (.data (.absY 0), 0xD9), (.data (.indX 0), 0xC1), (.data (.indY 0), 0xD1), (.data (.indZp 0), 0xD2)]
  | .cpx => [(.imm 0, 0xE0), (.data (.zp 0), 0xE4), (.data (.abs 0), 0xEC)]
  | .cpy => [(.imm 0, 0xC0), (.data (.zp 0), 0xC4), (.data (.abs 0), 0xCC)]
  | .inc => [(.data (.zp 0), 0xE6), (.data (.zpX 0), 0xF6), (.data (.abs 0), 0xEE), (.data (.absX 0), 0xFE)]
  | .dec => [(.data (.zp 0), 0xC6), (.data (.zpX 0), 0xD6), (.data (.abs 0), 0xCE), (.data (.absX 0), 0xDE)]
  | .inx => [(.implied, 0xE8)]
  | .iny => [(.implied, 0xC8)]
  | .dex => [(.implied, 0xCA)]
  | .dey => [(.implied, 0x88)]
  | .and => [
      (.imm 0, 0x29), (.data (.zp 0), 0x25), (.data (.zpX 0), 0x35), (.data (.abs 0), 0x2D), (.data (.absX 0), 0x3D),
      (.data (.absY 0), 0x39), (.data (.indX 0), 0x21), (.data (.indY 0), 0x31), (.data (.indZp 0), 0x32)]
  | .ora => [
      (.imm 0, 0x09), (.data (.zp 0), 0x05), (.data (.zpX 0), 0x15), (.data (.abs 0), 0x0D), (.data (.absX 0), 0x1D),
      (.data (.absY 0), 0x19), (.data (.indX 0), 0x01), (.data (.indY 0), 0x11), (.data (.indZp 0), 0x12)]
  | .eor => [
      (.imm 0, 0x49), (.data (.zp 0), 0x45), (.data (.zpX 0), 0x55), (.data (.abs 0), 0x4D), (.data (.absX 0), 0x5D),
      (.data (.absY 0), 0x59), (.data (.indX 0), 0x41), (.data (.indY 0), 0x51), (.data (.indZp 0), 0x52)]
  | .bit => [(.data (.zp 0), 0x24), (.data (.abs 0), 0x2C)]
  | .asl => [
      (.acc, 0x0A), (.data (.zp 0), 0x06), (.data (.zpX 0), 0x16), (.data (.abs 0), 0x0E),
      (.data (.absX 0), 0x1E)]
  | .lsr => [
      (.acc, 0x4A), (.data (.zp 0), 0x46), (.data (.zpX 0), 0x56), (.data (.abs 0), 0x4E),
      (.data (.absX 0), 0x5E)]
  | .rol => [
      (.acc, 0x2A), (.data (.zp 0), 0x26), (.data (.zpX 0), 0x36), (.data (.abs 0), 0x2E),
      (.data (.absX 0), 0x3E)]
  | .ror => [
      (.acc, 0x6A), (.data (.zp 0), 0x66), (.data (.zpX 0), 0x76), (.data (.abs 0), 0x6E),
      (.data (.absX 0), 0x7E)]
  | .tsb => [(.data (.zp 0), 0x04), (.data (.abs 0), 0x0C)]
  | .trb => [(.data (.zp 0), 0x14), (.data (.abs 0), 0x1C)]
  | .bpl => [(.rel 0, 0x10)]
  | .bmi => [(.rel 0, 0x30)]
  | .bvc => [(.rel 0, 0x50)]
  | .bvs => [(.rel 0, 0x70)]
  | .bcc => [(.rel 0, 0x90)]
  | .bcs => [(.rel 0, 0xB0)]
  | .bne => [(.rel 0, 0xD0)]
  | .beq => [(.rel 0, 0xF0)]
  | .bra => [(.rel 0, 0x80)]
  | .jmp => [(.data (.abs 0), 0x4C), (.ind 0, 0x6C), (.absIndX 0, 0x7C)]
  | .pha => [(.implied, 0x48)]
  | .php => [(.implied, 0x08)]
  | .pla => [(.implied, 0x68)]
  | .plp => [(.implied, 0x28)]
  | .jsr => [(.data (.abs 0), 0x20)]
  | .rts => [(.implied, 0x60)]
  | .clc => [(.implied, 0x18)]
  | .sec => [(.implied, 0x38)]
  | .cli => [(.implied, 0x58)]
  | .sei => [(.implied, 0x78)]
  | .cld => [(.implied, 0xD8)]
  | .sed => [(.implied, 0xF8)]
  | .clv => [(.implied, 0xB8)]
  | .nop => [(.implied, 0xEA)]
  | .brk => [(.implied, 0x00)]
  | .rti => [(.implied, 0x40)]
  | .illegal | .unsettled => []

/-- The instruction has a mode and an opcode byte that its rule lists. -/
def HasRuleForm (i : Instr) : Prop := (shape i.operand, i.opcode) ∈ ruleForms i.op

/-- R138: the operand byte an instruction reads and the state after the read, where it reads one. -/
def operandOf (i : Instr) (s : State) : Option (Byte × State) :=
  i.operand.read?.map fun o => loadOperand Config.params o s

/-- R14: Z and N of a byte. -/
def withNZ (v : Byte) (p : Flags) : Flags := { p with z := decide (v.toNat = 0), n := decide (0x80 ≤ v.toNat) }

/-- R35: the pushed status byte. -/
def statusByte (b : Bool) (p : Flags) : Byte :=
  BitVec.ofNat 8 (128 * p.n.toNat + 64 * p.v.toNat + 32 + 16 * b.toNat + 8 * p.d.toNat + 4 * p.i.toNat + 2 * p.z.toNat + p.c.toNat)

/-- R36: the flags of a pulled status byte. -/
def statusFlags (s : Byte) : Flags :=
  ⟨s.toNat.testBit 7, s.toNat.testBit 6, s.toNat.testBit 3, s.toNat.testBit 2, s.toNat.testBit 1, s.toNat.testBit 0⟩

/-- R170: a valid BCD byte. -/
def IsBcd (v : Byte) : Prop := v.toNat / 16 ≤ 9 ∧ v.toNat % 16 ≤ 9

/-- R170: the number of a BCD byte. -/
def digits (v : Byte) : Nat := 10 * (v.toNat / 16) + v.toNat % 16

/-- R170: the BCD byte of a number below 100. -/
def bcdOf (n : Nat) : Byte := BitVec.ofNat 8 (16 * (n / 10) + n % 10)

/-- R205–R208: a shift's result and the bit shifted out, from the byte and the carry before. -/
def shiftRule (op : Op) (v cin : Nat) : Nat × Bool :=
  match op with
  | .asl => (2 * v % 256, decide (128 ≤ v))
  | .lsr => (v / 2, decide (v % 2 = 1))
  | .rol => ((2 * v + cin) % 256, decide (128 ≤ v))
  | .ror => (v / 2 + 128 * cin, decide (v % 2 = 1))
  | _ => (v, false)

/-- R178: N, Z and V after decimal ADC and SBC with result `r` from the state `s`; `q` are the flags after. -/
def DecimalFlagsAre (r : Byte) (q : Flags) (s : State) : Prop :=
  match Config.params.decimalFlags with
  | .draw => q.n = Config.drawBit (s.draws + 1) ∧ q.z = Config.drawBit (s.draws + 2) ∧ q.v = Config.drawBit (s.draws + 3)
  | .fromResult => q = withNZ r { s.p with c := q.c }

/-- R231–R239: the predicate of each branch. -/
def branchTaken (op : Op) (p : Flags) : Bool :=
  match op with
  | .bpl => !p.n
  | .bmi => p.n
  | .bvc => !p.v
  | .bvs => p.v
  | .bcc => !p.c
  | .bcs => p.c
  | .bne => !p.z
  | .beq => p.z
  | .bra => true
  | _ => false

/-- `n` reads of the keyboard data register (R66): the bytes in order, and the state after. -/
def readKeys : Nat → State → List Byte × State
  | 0, s => ([], s)
  | n + 1, s =>
    let r := busRead 0xD010 s
    let q := readKeys n r.2
    (r.1 :: q.1, q.2)

/-- R104: how many bytes of an instruction PC moves past: none where the opcode halts. -/
def consumed (i : Instr) : Nat :=
  match i.op, Config.params.unnamedC02Slot with
  | .illegal, _ => 0
  | .unsettled, .halt => 0
  | _, _ => (encode i).length

/-- The instructions that write one byte at an effective address (R139, R140). -/
def addressedWriters : List Op := [.sta, .stx, .sty, .inc, .dec, .asl, .lsr, .rol, .ror, .tsb, .trb]

/-- The instructions that push (R250). -/
def pushers : List Op := [.pha, .php, .jsr, .brk]

/-- R126: resolving the operand reads a zero-page pointer at `0xFF`. -/
def PointerAtTop (i : Instr) (s : State) : Prop :=
  match i.operand with
  | .data (.indX b) => (b.toNat + s.x.toNat) % 256 = 255
  | .data (.indY b) | .data (.indZp b) => b.toNat = 255
  | _ => False

/-- R125: resolving the operand, whose zero-page pointer is not at `0xFF`, gives an address sum past `0xFFFF`. -/
def SumPastTop (i : Instr) (s : State) : Prop :=
  match i.operand with
  | .data (.absX w) => 0xFFFF < w.toNat + s.x.toNat
  | .data (.absY w) => 0xFFFF < w.toNat + s.y.toNat
  | .data (.indY b) => 0xFFFF < (s.mem.read b.toNat).toNat + 256 * (s.mem.read (b.toNat + 1)).toNat + s.y.toNat
  | .ind w => w.toNat = 0xFFFF
  | .absIndX w => 0xFFFF ≤ w.toNat + s.x.toNat
  | _ => False

/-- R8: the parameters `d` settle what the setting `g` leaves unsettled and are those of `g` elsewhere. -/
def Allows (g : Setting) (d : Params) : Prop :=
  (g.unnamedC02Slot = .refuse ∨ g.unnamedC02Slot = .settled d.unnamedC02Slot) ∧
  (g.addrOverflow = .refuse ∨ g.addrOverflow = .settled d.addrOverflow) ∧
  (g.zpPtrWrap = .refuse ∨ g.zpPtrWrap = .settled d.zpPtrWrap) ∧
  d.decimalFlags = g.decimalFlags ∧ d.decimalInvalid = g.decimalInvalid ∧
  d.irqPushOffset = g.irqPushOffset ∧ d.wr13Event = g.wr13Event

end Sys2Proof.Machine
end

