-- ==== Sys2Proof/Certificates/Slice0/Obligations.lean ====
section
/-! DEFINITION. The statements for the provers, from the numbered rules of spec/ file by file. Each holds for every value of the
open parameters and of the free values. The readings of rules they use (`ruleForms`, `withNZ`, `digits`, …) are in Safety.lean. -/

open Sys2Proof Sys2Proof.Machine

/-! ### Encoding and decoding (30_encoding.md) -/

/-- R101, R105, R108: no operand value of any well-formed instruction is lost between its bytes and its decoding. -/
def Obligations.DecodeOfEncodeGivesTheInstruction : Prop :=
  ∀ (i : Instr) (rest : List Byte), i.wf = true → decode (encode i ++ rest) = .ok (i, rest)

/-- R101, R110: a decoded instruction is well-formed and its encoding is exactly the bytes that were read. -/
def Obligations.EncodeOfDecodeGivesTheBytes : Prop :=
  ∀ (bs rest : List Byte) (i : Instr), decode bs = .ok (i, rest) → i.wf = true ∧ encode i ++ rest = bs

/-- R106: words written out from the opcode map, one or more of every family. The last is an unsettled slot, which the map marks `?`:
that it is read with two operand bytes is the model's reading of R291 (assumption log 8). -/
def Obligations.WordsOfTheOpcodeMapDecode : Prop :=
  decode [0xA9, 0x12] = .ok (.ldaImm 0x12, []) ∧
  decode [0x96, 0xFF, 0xEA] = .ok (.stxZpY 0xFF, [0xEA]) ∧
  decode [0x7D, 0x34, 0x12] = .ok (.adcAbsX 0x1234, []) ∧
  decode [0xF2, 0x80] = .ok (.sbcIndZp 0x80, []) ∧
  decode [0x2A] = .ok (.rolA, []) ∧
  decode [0x1C, 0x12, 0xD0] = .ok (.trbAbs 0xD012, []) ∧
  decode [0xD0, 0xFE] = .ok (.bne 0xFE, []) ∧
  decode [0x7C, 0x00, 0x05] = .ok (.jmpAbsIndX 0x0500, []) ∧
  decode [0x20, 0x00, 0x04] = .ok (.jsr 0x0400, []) ∧
  decode [0x00, 0xEA] = .ok (.brk, [0xEA]) ∧
  decode [0x02] = .ok (.illegal 0x02, []) ∧
  decode [0x9E, 0x00, 0x20] = .ok (.unsettledStzAbsX 0x2000, [])

/-- R100: "The length is fixed by the addressing mode of the opcode's table entry". -/
def Obligations.LengthFollowsTheAddressingMode : Prop :=
  ∀ i : Instr, (encode i).length =
    match i.operand with
    | .implied | .acc => 1
    | .imm _ | .rel _ => 2
    | .data (.abs _) | .data (.absX _) | .data (.absY _) => 3
    | .data _ => 2
    | .ind _ | .absIndX _ => 3

/-- R110: the opcode byte alone fixes the length and the operation, and R108: the 78 illegal-halt slots and the 13 unsettled
slots are exactly the listed bytes. -/
def Obligations.OpcodeByteFixesLengthAndClass : Prop :=
  ∀ op b1 b2 : Byte,
    (decodeOpcode op b1 b2).operand.bytes.length = operandCount op ∧
    (decodeOpcode op b1 b2).op = (decodeOpcode op 0 0).op ∧
    (decodeOpcode op b1 b2 = .illegal op ↔ op ∈ illegalSlots) ∧
    ((decodeOpcode op b1 b2).op = .unsettled ↔
      op ∈ [0x1A, 0x34, 0x3A, 0x3C, 0x5A, 0x64, 0x74, 0x7A, 0x89, 0x9C, 0x9E, 0xDA, 0xFA])

/-- R107, and the "Encoding" lines of R150–R279: each of the 165 legal bytes decodes to the instruction and the mode its rule
gives, and every legal instruction has such a byte. -/
def Obligations.RuleEncodingsAreTheDecoder : Prop :=
  (∀ (op : Op) (f : Operand × Byte) (b1 b2 : Byte), f ∈ ruleForms op →
    (decodeOpcode f.2 b1 b2).op = op ∧ shape (decodeOpcode f.2 b1 b2).operand = f.1) ∧
  (∀ i : Instr, i.op ≠ .illegal → i.op ≠ .unsettled → HasRuleForm i)

/-! ### Steps and runs (70_reset_and_hazards.md, 30_encoding.md R104) -/

/-- R104, R352: a step performs the instruction decoded from the bytes at PC, in the state that its fetch leaves. In general the
bytes are what the bus gives; where they lie in RAM above `0x0001` nothing but PC changes before the instruction is performed. -/
def Obligations.StepRunsTheInstructionAtPc : Prop :=
  (∀ s : State, s.halted = false →
    let o := busRead s.pc.toNat s
    let f := fetchOperands (operandsFetched Config.params o.1) o.2
    step s = exec (decodeOpcode o.1 f.b1 f.b2) f.state) ∧
  (∀ (s : State) (i : Instr) (rest : List Byte), s.halted = false →
    decode [s.mem.read s.pc.toNat, s.mem.read (s.pc + 1).toNat, s.mem.read (s.pc + 2).toNat] = .ok (i, rest) →
    (∀ k : Nat, k < (encode i).length →
      1 < (s.pc + BitVec.ofNat 16 k).toNat ∧ isRam (s.pc + BitVec.ofNat 16 k).toNat = true) →
    step s = if i.op = .unsettled ∧ Config.params.unnamedC02Slot = .halt then .next { s with halted := true }
      else exec i { s with pc := s.pc + BitVec.ofNat 16 (consumed i) })

/-- R352, R353: "while it is 1, a step performs nothing", and neither does a batch. -/
def Obligations.HaltedEngineDoesNothing : Prop :=
  ∀ s : State, s.halted = true → step s = .next s ∧ ∀ n : Nat, runBatch n s = .next s

/-- R301: "the engine always produces a well-defined next state". No parameter has the value `refuse` (assumption log 1). -/
def Obligations.EveryStepAnswersANextState : Prop :=
  (∀ (i : Instr) (s : State), ∃ t, exec i s = .next t) ∧ ∀ s : State, ∃ t, step s = .next t

/-- R290: an illegal opcode sets the halt flag and nothing else; the opcode's own read has been made. -/
def Obligations.IllegalOpcodeOnlyHalts : Prop :=
  (∀ (op : Byte) (s : State), exec (.illegal op) s = .next { s with halted := true }) ∧
  (∀ s : State, s.halted = false → (busRead s.pc.toNat s).1 ∈ illegalSlots →
    step s = .next { (busRead s.pc.toNat s).2 with halted := true })

/-- R37: the halt flag is set by an illegal opcode, and under `UnnamedC02Slot = halt` by an unsettled slot (R291), and by nothing
else, and no instruction clears it; resetting the engine does. -/
def Obligations.OnlyIllegalOpcodesSetTheHaltFlag : Prop :=
  (∀ (i : Instr) (s t : State), exec i s = .next t →
    (t.halted = true ↔ s.halted = true ∨ i.op = .illegal ∨
      (i.op = .unsettled ∧ Config.params.unnamedC02Slot = .halt))) ∧
  (∀ (l : EngineLaunch) (pc : Word) (s : State), (resetEngine l pc s).halted = false)

/-- Memory stays canonical and an active keyboard queue keeps a byte left (R60), step after step, from every state. -/
def Obligations.StepKeepsTheInvariant : Prop :=
  ∀ s t : State, s.Inv → step s = .next t → t.Inv

/-- The invariant holds after reset, which is the construction (R340) whose launch values the model chose (assumption log 3, 4, 5, 17). -/
def Obligations.ResetMeetsTheInvariant : Prop :=
  State.reset.Inv ∧ State.reset = construct ⟨⟨0, 0, 0, 0, ⟨false, false, false, false, false, false⟩⟩, [], 0⟩ 0xFF00

/-- R88, R350: every history of host operations keeps the invariant, given a canonical launch memory. -/
def Obligations.HistoriesKeepTheInvariant : Prop :=
  ∀ (ops : List HostOp) (s t : State),
    (∀ (l : Launch) (pc : Word), .construct l pc ∈ ops → l.mem.wf = true) →
    s.Inv → runHistory ops s = .next t → t.Inv

/-- R52: events are only appended. -/
def Obligations.StepOnlyAppendsToTheTrace : Prop :=
  ∀ s t : State, step s = .next t → ∃ evs, t.trace = s.trace ++ evs

/-- R353: a batch of none does nothing, a batch of one is a step unless the engine is halted, and a batch of `m + n` is a batch of `m`
and then one of `n`. Under a setting a refusal inside a step ends the batch with the refusal. -/
def Obligations.BatchesCompose : Prop :=
  (∀ s : State, runBatch 0 s = .next s) ∧
  (∀ s : State, s.halted = false → runBatch 1 s = step s) ∧
  (∀ (m n : Nat) (s t : State), runBatch m s = .next t → runBatch (m + n) s = runBatch n t) ∧
  (∀ (g : Setting) (n : Nat) (s : State) (r : Refusal), s.halted = false → stepUnder g s = .refused r →
    runBatchUnder g (n + 1) s = .refused r)

/-! ### What each part of the state is written by (10_state.md R21–R34) -/

/-- R21–R25: A, X, Y, SP and PC are written only by the instructions the rules list. The unsettled slots, which the rules leave
out, are left out here. -/
def Obligations.RegistersHaveOnlyTheirWriters : Prop :=
  ∀ (i : Instr) (s t : State), i.op ≠ .unsettled → exec i s = .next t →
    (i.op ∉ [.adc, .sbc, .and, .ora, .eor, .lda, .txa, .tya, .pla] → i.operand ≠ .acc → t.a = s.a) ∧
    (i.op ∉ [.ldx, .tax, .tsx, .inx, .dex] → t.x = s.x) ∧
    (i.op ∉ [.ldy, .tay, .iny, .dey] → t.y = s.y) ∧
    (i.op ∉ [.txs, .pha, .php, .pla, .plp, .jsr, .rts, .brk, .rti] → t.sp = s.sp) ∧
    (i.op ∉ [.bpl, .bmi, .bvc, .bvs, .bcc, .bcs, .bne, .beq, .bra, .jmp, .jsr, .rts, .brk, .rti] → t.pc = s.pc)

/-- R27–R32: each flag is written only by the instructions the rules list. The unsettled slots are left out as above. -/
def Obligations.FlagsHaveOnlyTheirWriters : Prop :=
  ∀ (i : Instr) (s t : State), i.op ≠ .unsettled → exec i s = .next t →
    (i.op ∉ [.adc, .sbc, .cmp, .cpx, .cpy, .asl, .lsr, .rol, .ror, .clc, .sec, .plp, .rti] → t.p.c = s.p.c) ∧
    (i.op ∉ [.lda, .ldx, .ldy, .tax, .tay, .txa, .tya, .tsx, .pla, .and, .ora, .eor, .inc, .dec, .inx, .iny, .dex, .dey,
      .asl, .lsr, .rol, .ror, .adc, .sbc, .cmp, .cpx, .cpy, .bit, .trb, .tsb, .plp, .rti] → t.p.z = s.p.z) ∧
    (i.op ∉ [.sei, .cli, .plp, .rti, .brk] → t.p.i = s.p.i) ∧
    (i.op ∉ [.sed, .cld, .plp, .rti] → t.p.d = s.p.d) ∧
    (i.op ∉ [.adc, .sbc, .bit, .clv, .plp, .rti] → t.p.v = s.p.v) ∧
    (i.op ∉ [.lda, .ldx, .ldy, .tax, .tay, .txa, .tya, .tsx, .pla, .and, .ora, .eor, .inc, .dec, .inx, .iny, .dex, .dey,
      .asl, .lsr, .rol, .ror, .adc, .sbc, .cmp, .cpx, .cpy, .bit, .plp, .rti] → t.p.n = s.p.n)

/-- R139, R140, R250: memory and the display latch are written only by stores, by read-modify-writes of memory and by pushes.
R60, R66: no instruction writes the contents of the keyboard queue. R177, R178: only ADC and SBC use free values, which is said of the
model's own counter `draws` (assumption log 2). -/
def Obligations.MemoryHasOnlyItsWriters : Prop :=
  ∀ (i : Instr) (s t : State), i.op ≠ .unsettled → exec i s = .next t →
    (i.op ∉ addressedWriters ∨ i.operand = .acc → i.op ∉ pushers → t.mem = s.mem ∧ t.dspLatch = s.dspLatch) ∧
    (i.op ∉ [.adc, .sbc] → t.draws = s.draws) ∧ t.kq = s.kq

/-- R139, R140: an instruction that writes at an effective address leaves every other byte of memory, every register and every
flag its rule does not name. -/
def Obligations.AddressedWritesChangeOneByte : Prop :=
  ∀ (i : Instr) (m : DataMode) (s t : State), s.Inv → i.op ∈ addressedWriters → i.operand = .data m → exec i s = .next t →
    (∀ b : Nat, b ≠ (effAddr Config.params m s).1 → t.mem.read b = s.mem.read b) ∧
    (isRam (effAddr Config.params m s).1 = false → t.mem = s.mem) ∧
    (isRam (effAddr Config.params m s).1 = true → t.dspLatch = s.dspLatch) ∧
    t.a = s.a ∧ t.x = s.x ∧ t.y = s.y ∧ t.sp = s.sp ∧ t.pc = s.pc ∧ t.halted = s.halted ∧ t.kq = s.kq ∧ t.draws = s.draws ∧
    t.p.v = s.p.v ∧ t.p.d = s.p.d ∧ t.p.i = s.p.i ∧
    (i.op ∈ [.inc, .dec] → t.p.c = s.p.c) ∧
    (i.op ∈ [.tsb, .trb] → t.p.n = s.p.n ∧ t.p.c = s.p.c) ∧
    (i.op ∈ [.sta, .stx, .sty] → t.p = s.p ∧ t.lastKey = s.lastKey ∧ t.kc = s.kc ∧ t.kqActive = s.kqActive)

/-- R250, R252, R278: a push changes no byte of memory but the stack slots it fills, and nothing but memory, SP and what the
rule of the instruction names. -/
def Obligations.PushesChangeOnlyTheirStackSlots : Prop :=
  ∀ (i : Instr) (s t : State) (b : Nat), s.Inv → i.op ∈ pushers → exec i s = .next t →
    b ≠ stackAddr s.sp →
    (i.op ∈ [.jsr, .brk] → b ≠ stackAddr (s.sp - 1)) →
    (i.op = .brk → b ≠ stackAddr (s.sp - 2)) →
    t.mem.read b = s.mem.read b ∧ t.a = s.a ∧ t.x = s.x ∧ t.y = s.y ∧ t.halted = s.halted ∧ t.lastKey = s.lastKey ∧
    t.kq = s.kq ∧ t.kc = s.kc ∧ t.kqActive = s.kqActive ∧ t.dspLatch = s.dspLatch ∧ t.trace = s.trace ∧ t.draws = s.draws ∧
    (i.op ≠ .brk → t.p = s.p) ∧ (i.op ∈ [.pha, .php] → t.pc = s.pc)

/-! ### Memory, bus and peripherals (20_memory.md) -/

/-- R55, R64, R70, R71, R73: what a read of every address gives and emits, but for the keyboard data register (R66) and the
keyboard status register (R67), which have statements of their own. -/
def Obligations.BusReadFollowsTheAddressMap : Prop :=
  ∀ (a : Nat) (s : State),
    (0xFFFF < a → busRead a s = (0, { s with trace := s.trace ++ [.error .badAddress] })) ∧
    (a = 0xD012 ∨ a = 0xD0F2 → busRead a s = (BitVec.ofNat 8 (s.dspLatch.toNat % 128), s)) ∧
    (a = 0xD013 → busRead a s = (0, { s with trace := s.trace ++ [.warn .dspStatusRead] })) ∧
    (0xD014 ≤ a → a ≤ 0xDFFF → a ≠ 0xD0F2 → busRead a s = (0, { s with trace := s.trace ++ [.error .unknownIO] })) ∧
    (0xD000 ≤ a → a < 0xD010 → busRead a s = (0, { s with trace := s.trace ++ [.error .unknownIO] })) ∧
    (a ≤ 1 → busRead a s = (s.mem.read a, { s with trace := s.trace ++ [.warn .lowAddress] })) ∧
    (1 < a → a < 0xD000 → busRead a s = (s.mem.read a, s)) ∧
    (0xDFFF < a → a ≤ 0xFFFF → busRead a s = (s.mem.read a, s))

/-- R54, R56: a write of any address and value: an access out of range is ignored, with its error where only one of the two is out of
range (D32: which error comes first is not stated); then RAM with its warning; a write in the window never reaches memory. -/
def Obligations.BusWriteFollowsTheAddressMap : Prop :=
  ∀ (c : Params) (a v : Int) (s : State),
    (a < 0 ∨ 0xFFFF < a ∨ v < 0 ∨ 0xFF < v → ∃ evs, busWriteChecked c a v s = { s with trace := s.trace ++ evs }) ∧
    (a < 0 ∨ 0xFFFF < a → 0 ≤ v → v ≤ 0xFF → busWriteChecked c a v s = { s with trace := s.trace ++ [.error .badAddress] }) ∧
    (0 ≤ a → a ≤ 0xFFFF → v < 0 ∨ 0xFF < v → busWriteChecked c a v s = { s with trace := s.trace ++ [.error .badValue] }) ∧
    (0 ≤ v → v ≤ 0xFF →
      (a = 0 ∨ a = 1 → busWriteChecked c a v s =
        { s with mem := s.mem.write a.toNat (BitVec.ofInt 8 v), trace := s.trace ++ [.warn .lowAddress] }) ∧
      (1 < a → a < 0xD000 → busWriteChecked c a v s = { s with mem := s.mem.write a.toNat (BitVec.ofInt 8 v) }) ∧
      (0xDFFF < a → a ≤ 0xFFFF → busWriteChecked c a v s = { s with mem := s.mem.write a.toNat (BitVec.ofInt 8 v) }) ∧
      (0xD000 ≤ a → a ≤ 0xDFFF → (busWriteChecked c a v s).mem = s.mem))

/-- R57, R68, R72, R73: every write in the window goes by its low hex digit alone. -/
def Obligations.WindowWritesGoByTheLowDigit : Prop :=
  ∀ (c : Params) (a : Nat) (v : Byte) (s : State), 0xD000 ≤ a → a ≤ 0xDFFF →
    foldWrite a = 0xD010 + a % 16 ∧
    (a % 16 ≤ 1 → busWrite c a v s = { s with trace := s.trace ++ [.warn .kbdWrite] }) ∧
    (a % 16 = 2 → busWrite c a v s = busWrite c 0xD012 v s) ∧
    (a % 16 = 3 → busWrite c a v s = { s with trace := s.trace ++
      match c.wr13Event with
      | .none => []
      | .warn => [.warn .unknownIO]
      | .error => [.error .unknownIO] }) ∧
    (4 ≤ a % 16 → busWrite c a v s = { s with trace := s.trace ++ [.error .unknownIO] })

/-- R66, R67: the keyboard data register pops the active queue or takes the scalar key, clears the scalar key in either case and
warns of a key 0; the status register changes nothing. -/
def Obligations.KeyboardReadsConsumeAKey : Prop :=
  ∀ s : State, s.Inv →
    (s.kqActive = true → busRead 0xD010 s = (s.kq.getD s.kc 0 ||| 0x80,
      { s with
        lastKey := 0, kc := s.kc + 1, kqActive := decide (s.kc + 1 < s.kq.length),
        trace := s.trace ++ if s.kq.getD s.kc 0 = 0 then [.warn .noKey] else [] })) ∧
    (s.kqActive = false → busRead 0xD010 s = (s.lastKey ||| 0x80,
      { s with lastKey := 0, trace := s.trace ++ if s.lastKey = 0 then [.warn .noKey] else [] })) ∧
    busRead 0xD011 s = (if s.kqActive = false ∧ s.lastKey = 0 then 0x01 else 0x80, s)

/-- R69, R70: a write to the display outputs the low seven bits, CR as LF, and keeps the whole byte; the read back has bit 7
clear. -/
def Obligations.DisplayOutputsAndReadsBack : Prop :=
  ∀ (c : Params) (v : Byte) (s : State),
    let t := busWrite c 0xD012 v s
    t = { s with dspLatch := v, trace := s.trace ++
      [.output (if v.toNat % 128 = 13 then 0x0A else BitVec.ofNat 8 (v.toNat % 128))] } ∧
    busRead 0xD012 t = (BitVec.ofNat 8 (v.toNat % 128), t)

/-- R76, R66: `fillKeyBuf(text)` replaces the queue, and the reads after it give the characters in order, LF as CR and bit 7 set, and then the queue is
inactive; a character above `0xFF` is refused. -/
def Obligations.FilledQueueIsReadInOrder : Prop :=
  ∀ (text : List Nat) (s : State),
    ((∃ ch ∈ text, 0xFF < ch) → fillKeyBuf text s = .refused .keyCharAboveFF) ∧
    ((∀ ch ∈ text, ch ≤ 0xFF) → ∃ t, fillKeyBuf text s = .next t ∧
      t = { s with
        kq := text.map fun ch => if ch = 0x0A then 0x0D else BitVec.ofNat 8 ch
        kc := 0
        kqActive := decide (0 < text.length) } ∧
      (readKeys text.length t).1 = text.map (fun ch => (if ch = 0x0A then 0x0D else BitVec.ofNat 8 ch) ||| 0x80) ∧
      (readKeys text.length t).2.kqActive = false)

/-- R85: a read of any address but `0xD010` gives the same value again when repeated with no write between. -/
def Obligations.RepeatedReadsAgree : Prop :=
  ∀ (a : Nat) (s : State), a ≠ 0xD010 → (busRead a (busRead a s).2).1 = (busRead a s).1

/-- R88: a read of a RAM address returns the value of the most recent write to it, and a write leaves every other RAM address
as it was. -/
def Obligations.RamReadsReturnTheLastWrite : Prop :=
  ∀ (c : Params) (a b : Nat) (v : Byte) (s : State), s.Inv → isRam a = true → isRam b = true →
    (busRead b (busWrite c a v s)).1 = if b = a then v else (busRead b s).1

/-- R77, R78: `loadBinary` places every byte in order where all land in RAM below or above the window, leaves the rest of memory and
changes nothing else but the trace; a byte past `0xFFFF` is dropped with an error, it does not wrap; a load is the loads of its parts
in order. `loadBios` places its 256 bytes from `0xFF00` on and changes nothing else. -/
def Obligations.LoadedBytesReadBack : Prop :=
  (∀ (c : Params) (data : List Byte) (origin : Nat) (s : State), s.Inv →
    origin + data.length ≤ 0xD000 ∨ (0xE000 ≤ origin ∧ origin + data.length ≤ 0x10000) →
    let t := loadBinary c (data.map fun b => (b.toNat : Int)) origin s
    (∀ k : Nat, k < data.length → t.mem.read (origin + k) = data.getD k 0) ∧
    (∀ b : Nat, b < origin ∨ origin + data.length ≤ b → t.mem.read b = s.mem.read b) ∧
    t = { s with mem := t.mem, trace := t.trace }) ∧
  (∀ (c : Params) (data : List Byte) (origin : Int) (s : State), 0xFFFF < origin →
    loadBinary c (data.map fun b => (b.toNat : Int)) origin s =
      { s with trace := s.trace ++ List.replicate data.length (.error .badAddress) }) ∧
  (∀ (c : Params) (first second : List Int) (origin : Int) (s : State),
    loadBinary c (first ++ second) origin s = loadBinary c second (origin + first.length) (loadBinary c first origin s)) ∧
  (∀ (c : Params) (image : Vector Byte 256) (s : State), s.Inv →
    let t := loadBios c image s
    (∀ k : Fin 256, t.mem.read (0xFF00 + k.val) = image[k]) ∧
    (∀ b : Nat, b < 0xFF00 ∨ 0xFFFF < b → t.mem.read b = s.mem.read b) ∧
    t = { s with mem := t.mem })

/-! ### Addressing modes (40_addressing.md) -/

/-- R125, R127–R131: the direct modes read no memory; a zero-page sum wraps in the page, and an indexed sum past `0xFFFF` goes as
`AddrOverflow` says. -/
def Obligations.DirectModesGiveTheirAddress : Prop :=
  ∀ (c : Params) (b : Byte) (w : Word) (s : State),
    effAddr c (.zp b) s = (b.toNat, s) ∧
    effAddr c (.zpX b) s = ((b.toNat + s.x.toNat) % 256, s) ∧
    effAddr c (.zpY b) s = ((b.toNat + s.y.toNat) % 256, s) ∧
    effAddr c (.abs w) s = (w.toNat, s) ∧
    (∀ r : Byte, let sum := w.toNat + r.toNat
      overflowAddr c sum = if sum ≤ 0xFFFF then sum else match c.addrOverflow with
        | .wrap16 => sum - 0x10000
        | .busOutOfRange => sum) ∧
    effAddr c (.absX w) s = (overflowAddr c (w.toNat + s.x.toNat), s) ∧
    effAddr c (.absY w) s = (overflowAddr c (w.toNat + s.y.toNat), s)

/-- R126, R132–R134: the indirect modes take the little-endian word at a zero-page pointer; the byte after `0xFF` is where
`ZpPtrWrap` says. A pointer read changes only the trace, by a warning for `0x0000` and for `0x0001`. -/
def Obligations.IndirectModesGiveThePointedAddress : Prop :=
  ∀ (c : Params) (b : Byte) (s : State),
    let succ (p : Byte) : Nat := if p.toNat < 0xFF then p.toNat + 1 else match c.zpPtrWrap with
      | .wrapZp => 0
      | .linear => 0x100
    let ptr (p : Byte) : Nat := (s.mem.read p.toNat).toNat + 256 * (s.mem.read (succ p)).toNat
    let after (p : Byte) : State := { s with trace := s.trace ++
      (if p.toNat ≤ 1 then [.warn .lowAddress] else []) ++ if succ p ≤ 1 then [.warn .lowAddress] else [] }
    effAddr c (.indX b) s = (ptr (b + s.x), after (b + s.x)) ∧
    effAddr c (.indY b) s = (overflowAddr c (ptr b + s.y.toNat), after b) ∧
    effAddr c (.indZp b) s = (ptr b, after b)

/-! ### Loads, stores and transfers (41_load_store_transfer.md) -/

/-- R138: the operand byte is the immediate value, with no bus access, or is read once at the effective address. R150–R152: LDA, LDX and
LDY. No form is refused (assumption log 1). -/
def Obligations.LoadsCopyTheOperand : Prop :=
  (∀ (c : Params) (v : Byte) (m : DataMode) (s : State),
    loadOperand c (.imm v) s = (v, s) ∧
    loadOperand c (.data m) s = busRead (effAddr c m s).1 (effAddr c m s).2) ∧
  (∀ (i : Instr) (s : State),
    (∀ v, i.operand = .imm v → operandOf i s = some (v, s)) ∧
    (∀ m, i.operand = .data m →
      operandOf i s = some (busRead (effAddr Config.params m s).1 (effAddr Config.params m s).2))) ∧
  ∀ (i : Instr) (s : State),
    (i.op = .lda → HasRuleForm i ∧ ∃ v t, operandOf i s = some (v, t) ∧
      exec i s = .next { t with a := v, p := withNZ v s.p }) ∧
    (i.op = .ldx → HasRuleForm i ∧ ∃ v t, operandOf i s = some (v, t) ∧
      exec i s = .next { t with x := v, p := withNZ v s.p }) ∧
    (i.op = .ldy → HasRuleForm i ∧ ∃ v t, operandOf i s = some (v, t) ∧
      exec i s = .next { t with y := v, p := withNZ v s.p })

/-- R153–R155: STA, STX and STY: one write at the effective address, no flag. No form is refused (assumption log 1). -/
def Obligations.StoresWriteTheRegister : Prop :=
  ∀ (i : Instr) (s : State),
    (i.op = .sta → HasRuleForm i ∧ ∃ m, i.operand = .data m ∧
      exec i s = .next (busWrite Config.params (effAddr Config.params m s).1 s.a (effAddr Config.params m s).2)) ∧
    (i.op = .stx → HasRuleForm i ∧ ∃ m, i.operand = .data m ∧
      exec i s = .next (busWrite Config.params (effAddr Config.params m s).1 s.x (effAddr Config.params m s).2)) ∧
    (i.op = .sty → HasRuleForm i ∧ ∃ m, i.operand = .data m ∧
      exec i s = .next (busWrite Config.params (effAddr Config.params m s).1 s.y (effAddr Config.params m s).2))

/-- R156–R161: the transfers; TXS sets no flag. -/
def Obligations.TransfersCopyARegister : Prop :=
  (∀ i ∈ [Instr.tax, .tay, .txa, .tya, .tsx, .txs], HasRuleForm i) ∧
  ∀ s : State,
    exec .tax s = .next { s with x := s.a, p := withNZ s.a s.p } ∧
    exec .tay s = .next { s with y := s.a, p := withNZ s.a s.p } ∧
    exec .txa s = .next { s with a := s.x, p := withNZ s.x s.p } ∧
    exec .tya s = .next { s with a := s.y, p := withNZ s.y s.p } ∧
    exec .tsx s = .next { s with x := s.sp, p := withNZ s.sp s.p } ∧
    exec .txs s = .next { s with sp := s.x }

/-! ### Arithmetic (42_arithmetic.md) -/

/-- R171, R172, R174, R175: binary ADC and SBC.No form is refused (assumption log 1). -/
def Obligations.BinaryAddAndSubtract : Prop :=
  ∀ (i : Instr) (s : State), s.p.d = false →
    (i.op = .adc → HasRuleForm i ∧ ∃ m t, operandOf i s = some (m, t) ∧
      let sum := s.a.toNat + m.toNat + s.p.c.toNat
      let r := BitVec.ofNat 8 sum
      exec i s = .next { t with
        a := r
        p := withNZ r { s.p with c := decide (0xFF < sum), v := decide (s.a.msb = m.msb ∧ r.msb ≠ s.a.msb) } }) ∧
    (i.op = .sbc → HasRuleForm i ∧ ∃ m t, operandOf i s = some (m, t) ∧
      let diff : Int := s.a.toNat - m.toNat - (1 - s.p.c.toNat)
      let r := BitVec.ofInt 8 diff
      exec i s = .next { t with
        a := r
        p := withNZ r { s.p with c := decide (0 ≤ diff), v := decide (s.a.msb ≠ m.msb ∧ r.msb ≠ s.a.msb) } })

/-- R189: V is signed overflow: the exact two's-complement result lies outside −128..127. -/
def Obligations.OverflowFlagIsSignedOverflow : Prop :=
  ∀ (a m : Byte) (p : Flags),
    ((adcBinary a m p).2.v = true ↔ a.toInt + m.toInt + p.c.toNat < -128 ∨ 127 < a.toInt + m.toInt + p.c.toNat) ∧
    ((sbcBinary a m p).2.v = true ↔
      a.toInt - m.toInt - (1 - p.c.toNat) < -128 ∨ 127 < a.toInt - m.toInt - (1 - p.c.toNat))

/-- R173, R176, R178: decimal ADC and SBC of valid BCD bytes; N, Z and V are free values or come from the result, as
`DecimalFlags` says. The free values are those of the model's counter (assumption log 2), and no form is refused (assumption log 1). -/
def Obligations.DecimalAddAndSubtract : Prop :=
  ∀ (i : Instr) (s : State), s.p.d = true → (i.op = .adc ∨ i.op = .sbc) →
    ∃ m t, operandOf i s = some (m, t) ∧ (IsBcd s.a → IsBcd m → ∃ q : Flags,
      let n : Int := if i.op = .adc then digits s.a + digits m + s.p.c.toNat
        else digits s.a - digits m - 1 + s.p.c.toNat
      let r := bcdOf (n % 100).toNat
      exec i s = .next { t with a := r, p := q, draws := s.draws + 4 } ∧
      q.c = decide (if i.op = .adc then 99 < n else 0 ≤ n) ∧ q.d = true ∧ q.i = s.p.i ∧ DecimalFlagsAre r q s)

/-- R177: decimal ADC and SBC where a byte is not valid BCD complete: A, C, N, Z and V are free values, or the formula holds
where it is stated (a difference below −100 has no stated byte: assumption log 6). I and D are unchanged in either case.
The free values are those of the model's counter (assumption log 2), and no form is refused (assumption log 1). -/
def Obligations.DecimalOfInvalidBcdCompletes : Prop :=
  ∀ (i : Instr) (s : State), s.p.d = true → (i.op = .adc ∨ i.op = .sbc) →
    ∃ m t, operandOf i s = some (m, t) ∧ (¬ (IsBcd s.a ∧ IsBcd m) → ∃ (r : Byte) (q : Flags),
      exec i s = .next { t with a := r, p := q, draws := s.draws + 4 } ∧ q.d = true ∧ q.i = s.p.i ∧
      match Config.params.decimalInvalid with
      | .draw => r = Config.drawByte s.draws ∧ q.c = Config.drawBit s.draws ∧ q.n = Config.drawBit (s.draws + 1) ∧
          q.z = Config.drawBit (s.draws + 2) ∧ q.v = Config.drawBit (s.draws + 3)
      | .formula =>
        let n : Int := if i.op = .adc then digits s.a + digits m + s.p.c.toNat
          else digits s.a - digits m - 1 + s.p.c.toNat
        let k : Int := if i.op = .adc then (if 99 < n then n - 100 else n) else (if n < 0 then n + 100 else n)
        q.c = decide (if i.op = .adc then 99 < n else 0 ≤ n) ∧
        r = (if 0 ≤ k then BitVec.ofNat 8 (16 * (k.toNat / 10) + k.toNat % 10) else Config.drawByte s.draws) ∧
        DecimalFlagsAre r q s)

/-- R170: the BCD helpers as the rule gives them, and that encoding and decoding are inverse to each other. -/
def Obligations.BcdHelpersAndRoundTrip : Prop :=
  (∀ v : Byte, (bcdValid v = true ↔ IsBcd v) ∧ bcdDecode v = digits v) ∧
  (∀ n : Nat, n < 100 → bcdEncode n = bcdOf n ∧ bcdValid (bcdEncode n) = true ∧ bcdDecode (bcdEncode n) = n) ∧
  (∀ v : Byte, bcdValid v = true → bcdDecode v < 100 ∧ bcdEncode (bcdDecode v) = v)

/-- R179–R182: CMP, CPX and CPY, binary whatever D is.No form is refused (assumption log 1). -/
def Obligations.ComparesSetCarryZeroNegative : Prop :=
  ∀ (i : Instr) (s : State), i.op ∈ [.cmp, .cpx, .cpy] → HasRuleForm i ∧ ∃ m t, operandOf i s = some (m, t) ∧
    let r : Byte := if i.op = .cmp then s.a else if i.op = .cpx then s.x else s.y
    exec i s = .next { t with p := { s.p with
      c := decide (m.toNat ≤ r.toNat)
      z := decide (r = m)
      n := decide (128 ≤ (r.toNat + 256 - m.toNat) % 256) } }

/-- R183–R188: INC and DEC of memory and of X and Y.No form is refused (assumption log 1). -/
def Obligations.IncrementsAndDecrements : Prop :=
  (∀ (i : Instr) (s : State), i.op = .inc ∨ i.op = .dec → HasRuleForm i ∧ ∃ m, i.operand = .data m ∧
    let e := effAddr Config.params m s
    let r := busRead e.1 e.2
    let v : Byte := if i.op = .inc then r.1 + 1 else r.1 - 1
    exec i s = .next { busWrite Config.params e.1 v r.2 with p := withNZ v s.p }) ∧
  (∀ i ∈ [Instr.inx, .iny, .dex, .dey], HasRuleForm i) ∧
  ∀ s : State,
    exec .inx s = .next { s with x := s.x + 1, p := withNZ (s.x + 1) s.p } ∧
    exec .iny s = .next { s with y := s.y + 1, p := withNZ (s.y + 1) s.p } ∧
    exec .dex s = .next { s with x := s.x - 1, p := withNZ (s.x - 1) s.p } ∧
    exec .dey s = .next { s with y := s.y - 1, p := withNZ (s.y - 1) s.p }

/-! ### Logic, shifts and bit tests (43_logic_shift_bit.md) -/

/-- R201–R203: AND, ORA and EOR.No form is refused (assumption log 1). -/
def Obligations.LogicalOperations : Prop :=
  ∀ (i : Instr) (s : State), i.op ∈ [.and, .ora, .eor] → HasRuleForm i ∧ ∃ m t, operandOf i s = some (m, t) ∧
    let r : Byte := if i.op = .and then s.a &&& m else if i.op = .ora then s.a ||| m else s.a ^^^ m
    exec i s = .next { t with a := r, p := withNZ r s.p }

/-- R204: BIT takes N and V from the operand and Z from `A & m`. -/
def Obligations.BitTestsTheOperand : Prop :=
  ∀ (i : Instr) (s : State), i.op = .bit → HasRuleForm i ∧ ∃ m t, operandOf i s = some (m, t) ∧
    exec i s = .next { t with p := { s.p with
      n := m.toNat.testBit 7
      v := m.toNat.testBit 6
      z := decide (s.a &&& m = 0) } }

/-- R200, R205–R208: the shifts and rotates of A and of memory.No form is refused (assumption log 1). -/
def Obligations.ShiftsAndRotates : Prop :=
  ∀ (i : Instr) (s : State), i.op ∈ [.asl, .lsr, .rol, .ror] → HasRuleForm i ∧
    (i.operand = .acc →
      let f := shiftRule i.op s.a.toNat s.p.c.toNat
      exec i s = .next { s with a := BitVec.ofNat 8 f.1, p := withNZ (BitVec.ofNat 8 f.1) { s.p with c := f.2 } }) ∧
    (∀ m, i.operand = .data m →
      let e := effAddr Config.params m s
      let r := busRead e.1 e.2
      let f := shiftRule i.op r.1.toNat s.p.c.toNat
      exec i s = .next { busWrite Config.params e.1 (BitVec.ofNat 8 f.1) r.2 with
        p := withNZ (BitVec.ofNat 8 f.1) { s.p with c := f.2 } })

/-- R207, R208: ROR undoes ROL: it gives back the byte and the carry. -/
def Obligations.RotatesUndoEachOther : Prop :=
  ∀ (v : Byte) (p : Flags),
    (rorByte (rolByte v p).1 (rolByte v p).2).1 = v ∧ (rorByte (rolByte v p).1 (rolByte v p).2).2.c = p.c ∧
    (rolByte (rorByte v p).1 (rorByte v p).2).1 = v ∧ (rolByte (rorByte v p).1 (rorByte v p).2).2.c = p.c

/-- R209, R210: TSB and TRB; Z alone, from the written value. -/
def Obligations.TestAndModifyBits : Prop :=
  ∀ (i : Instr) (s : State), i.op = .tsb ∨ i.op = .trb → HasRuleForm i ∧ ∃ m, i.operand = .data m ∧
    let e := effAddr Config.params m s
    let r := busRead e.1 e.2
    let v : Byte := if i.op = .tsb then r.1 ||| s.a else r.1 &&& ~~~s.a
    exec i s = .next { busWrite Config.params e.1 v r.2 with p := { s.p with z := decide (v = 0) } }

/-! ### Branches and jumps (44_branch_jump.md) -/

/-- R137, R230–R239: a branch moves PC, which is past the displacement, by the signed displacement mod 2^16 where its predicate
holds, and does nothing else. -/
def Obligations.BranchesMovePcByTheDisplacement : Prop :=
  ∀ (i : Instr) (s : State), i.op ∈ [.bpl, .bmi, .bvc, .bvs, .bcc, .bcs, .bne, .beq, .bra] → HasRuleForm i ∧
    ∃ d, i.operand = .rel d ∧
      exec i s = .next { s with
        pc := if branchTaken i.op s.p = true then BitVec.ofInt 16 (s.pc.toNat + d.toInt) else s.pc }

/-- R124, R135, R136, R240: JMP; the pointer forms read the low byte first, with no page wrap, and go past `0xFFFF` as
`AddrOverflow` says, which has no value `refuse` here (assumption log 1). -/
def Obligations.JumpsLoadPc : Prop :=
  (∀ i : Instr, i.op = .jmp → HasRuleForm i) ∧
  ∀ (w : Word) (s : State),
    let through (a : Nat) : Outcome :=
      let lo := busRead a s
      let hi := busRead (overflowAddr Config.params (a + 1)) lo.2
      .next { hi.2 with pc := BitVec.ofNat 16 (lo.1.toNat + 256 * hi.1.toNat) }
    exec (.jmpAbs w) s = .next { s with pc := w } ∧
    exec (.jmpInd w) s = through w.toNat ∧
    exec (.jmpAbsIndX w) s = through (overflowAddr Config.params (w.toNat + s.x.toNat))

/-! ### Stack and subroutines (45_stack_subroutine.md) -/

/-- R250, R251, R254–R257: PHA, PHP, PLA and PLP. -/
def Obligations.PushesAndPulls : Prop :=
  (∀ i ∈ [Instr.pha, .php, .pla, .plp], HasRuleForm i) ∧
  ∀ s : State,
    let top := s.mem.read (0x0100 + (s.sp + 1).toNat)
    exec .pha s = .next { s with mem := s.mem.write (0x0100 + s.sp.toNat) s.a, sp := s.sp - 1 } ∧
    exec .php s = .next { s with mem := s.mem.write (0x0100 + s.sp.toNat) (statusByte true s.p), sp := s.sp - 1 } ∧
    exec .pla s = .next { s with a := top, sp := s.sp + 1, p := withNZ top s.p } ∧
    exec .plp s = .next { s with sp := s.sp + 1, p := statusFlags top }

/-- R253: a word is pulled low byte first, and a pull after a push gives the byte or the word back and leaves SP as it was. -/
def Obligations.PullUndoesPush : Prop :=
  ∀ (c : Params) (v : Byte) (w : Word) (s : State),
    pop16 s = (BitVec.ofNat 16 ((s.mem.read (0x0100 + (s.sp + 1).toNat)).toNat + 256 * (s.mem.read (0x0100 + (s.sp + 2).toNat)).toNat),
      { s with sp := s.sp + 2 }) ∧
    (s.Inv → (pop (push c v s)).1 = v ∧ (pop (push c v s)).2.sp = s.sp ∧
      (pop16 (push16 c w s)).1 = w ∧ (pop16 (push16 c w s)).2.sp = s.sp)

/-- R252, R253, R258, R259: JSR pushes the address of its last byte, high byte first; RTS pulls it and adds one. -/
def Obligations.SubroutineCallAndReturn : Prop :=
  HasRuleForm (.jsr 0) ∧ HasRuleForm .rts ∧
  ∀ (w : Word) (s : State),
    exec (.jsr w) s = .next { s with
      mem := (s.mem.write (0x0100 + s.sp.toNat) (BitVec.ofNat 8 ((s.pc - 1).toNat / 256))).write
        (0x0100 + (s.sp - 1).toNat) (BitVec.ofNat 8 ((s.pc - 1).toNat % 256))
      sp := s.sp - 2
      pc := w } ∧
    exec .rts s = .next { s with
      sp := s.sp + 2
      pc := BitVec.ofNat 16 ((s.mem.read (0x0100 + (s.sp + 1).toNat)).toNat + 256 * (s.mem.read (0x0100 + (s.sp + 2).toNat)).toNat) + 1 }

/-- R258, R259: RTS, executed wherever memory and SP are as JSR left them, resumes after the JSR. -/
def Obligations.ReturnResumesAfterTheCall : Prop :=
  ∀ (w : Word) (s t u v : State), s.Inv → exec (.jsr w) s = .next t → u.mem = t.mem → u.sp = t.sp →
    exec .rts u = .next v → v = { u with pc := s.pc, sp := s.sp }

/-! ### Flags, BRK and RTI (46_flags_system.md) -/

/-- R270–R277: the flag instructions and NOP. -/
def Obligations.FlagInstructions : Prop :=
  (∀ i ∈ [Instr.clc, .sec, .cli, .sei, .cld, .sed, .clv, .nop], HasRuleForm i) ∧
  ∀ s : State,
    exec .clc s = .next { s with p := { s.p with c := false } } ∧
    exec .sec s = .next { s with p := { s.p with c := true } } ∧
    exec .cli s = .next { s with p := { s.p with i := false } } ∧
    exec .sei s = .next { s with p := { s.p with i := true } } ∧
    exec .cld s = .next { s with p := { s.p with d := false } } ∧
    exec .sed s = .next { s with p := { s.p with d := true } } ∧
    exec .clv s = .next { s with p := { s.p with v := false } } ∧
    exec .nop s = .next s

/-- R278, R322: BRK, whatever I is: the address after the next byte and the status byte with bit 4 set are pushed, I is set, D
and the other flags stay, and PC comes from the vector; R279: RTI. -/
def Obligations.BreakAndReturnFromInterrupt : Prop :=
  HasRuleForm .brk ∧ HasRuleForm .rti ∧
  ∀ s : State,
    let m := ((s.mem.write (0x0100 + s.sp.toNat) (BitVec.ofNat 8 ((s.pc + 1).toNat / 256))).write
      (0x0100 + (s.sp - 1).toNat) (BitVec.ofNat 8 ((s.pc + 1).toNat % 256))).write
      (0x0100 + (s.sp - 2).toNat) (statusByte true s.p)
    exec .brk s = .next { s with
      mem := m
      sp := s.sp - 3
      p := { s.p with i := true }
      pc := BitVec.ofNat 16 ((m.read 0xFFFE).toNat + 256 * (m.read 0xFFFF).toNat) } ∧
    exec .rti s = .next { s with
      sp := s.sp + 3
      p := statusFlags (s.mem.read (0x0100 + (s.sp + 1).toNat))
      pc := BitVec.ofNat 16 ((s.mem.read (0x0100 + (s.sp + 2).toNat)).toNat + 256 * (s.mem.read (0x0100 + (s.sp + 3).toNat)).toNat) }

/-- R323, R324: RTI, executed wherever memory and SP are as BRK left them, restores the flags and SP and resumes at the BRK's
address plus two. -/
def Obligations.ReturnResumesAfterTheBreak : Prop :=
  ∀ s t u v : State, s.Inv → exec .brk s = .next t → u.mem = t.mem → u.sp = t.sp →
    exec .rti u = .next v → v = { u with pc := s.pc + 1, sp := s.sp, p := s.p }

/-- R291: the 13 unsettled slots halt or do what the 65C02 documents, as `UnnamedC02Slot` says. -/
def Obligations.UnsettledSlotsHaltOrRun : Prop :=
  match Config.params.unnamedC02Slot with
  | .halt => ∀ (i : Instr) (s : State), i.op = .unsettled → exec i s = .next { s with halted := true }
  | .c02 => ∀ (b : Byte) (w : Word) (s : State),
    let top := s.mem.read (0x0100 + (s.sp + 1).toNat)
    let put (m : DataMode) : State := busWrite Config.params (effAddr Config.params m s).1 0 (effAddr Config.params m s).2
    let bit (m : DataMode) : State :=
      let r := busRead (effAddr Config.params m s).1 (effAddr Config.params m s).2
      { r.2 with p := { s.p with n := r.1.toNat.testBit 7, v := r.1.toNat.testBit 6, z := decide (s.a &&& r.1 = 0) } }
    exec .unsettledIncA s = .next { s with a := s.a + 1, p := withNZ (s.a + 1) s.p } ∧
    exec .unsettledDecA s = .next { s with a := s.a - 1, p := withNZ (s.a - 1) s.p } ∧
    exec .unsettledPhy s = .next { s with mem := s.mem.write (0x0100 + s.sp.toNat) s.y, sp := s.sp - 1 } ∧
    exec .unsettledPhx s = .next { s with mem := s.mem.write (0x0100 + s.sp.toNat) s.x, sp := s.sp - 1 } ∧
    exec .unsettledPly s = .next { s with y := top, sp := s.sp + 1, p := withNZ top s.p } ∧
    exec .unsettledPlx s = .next { s with x := top, sp := s.sp + 1, p := withNZ top s.p } ∧
    exec (.unsettledStzZp b) s = .next (put (.zp b)) ∧
    exec (.unsettledStzZpX b) s = .next (put (.zpX b)) ∧
    exec (.unsettledStzAbs w) s = .next (put (.abs w)) ∧
    exec (.unsettledStzAbsX w) s = .next (put (.absX w)) ∧
    exec (.unsettledBitZpX b) s = .next (bit (.zpX b)) ∧
    exec (.unsettledBitAbsX w) s = .next (bit (.absX w)) ∧
    exec (.unsettledBitImm b) s = .next { s with p := { s.p with z := decide (s.a &&& b = 0) } }

/-! ### The hardware-interrupt entry and reset (60_exceptions.md, 70_reset_and_hazards.md) -/

/-- R311–R313, R326: the hardware-interrupt entry is a no-op while I is set; otherwise it pushes PC plus `IrqPushOffset` and the
status byte with bit 4 a free value, sets I, leaves D and the halt flag, and loads PC from the vector. The free
value is that of the model's counter (assumption log 2). -/
def Obligations.HardwareInterruptEntry : Prop :=
  ∀ (c : Params) (s : State),
    (s.p.i = true → irq c s = s) ∧
    (s.p.i = false →
      let ret : Word := match c.irqPushOffset with
        | .zero => s.pc
        | .one => s.pc + 1
      let m := ((s.mem.write (0x0100 + s.sp.toNat) (BitVec.ofNat 8 (ret.toNat / 256))).write
        (0x0100 + (s.sp - 1).toNat) (BitVec.ofNat 8 (ret.toNat % 256))).write
        (0x0100 + (s.sp - 2).toNat) (statusByte (Config.drawBit s.draws) s.p)
      irq c s = { s with
        mem := m
        sp := s.sp - 3
        p := { s.p with i := true }
        pc := BitVec.ofNat 16 ((m.read 0xFFFE).toNat + 256 * (m.read 0xFFFF).toNat)
        draws := s.draws + 1 })

/-- R40, R340: construction takes the launch values, PC from the host, and clears the halt flag, the keyboard and the trace; an
engine reset writes the CPU alone. That the inactive queue is empty after construction is the model's choice (assumption log 17). -/
def Obligations.ConstructionAndEngineReset : Prop :=
  (∀ (l : Launch) (pc : Word),
    let s := construct l pc
    s.a = l.engine.a ∧ s.x = l.engine.x ∧ s.y = l.engine.y ∧ s.sp = l.engine.sp ∧ s.p = l.engine.p ∧ s.pc = pc ∧
    s.halted = false ∧ s.mem = l.mem ∧ s.lastKey = 0 ∧ s.kq = [] ∧ s.kc = 0 ∧ s.kqActive = false ∧ s.dspLatch = l.dspLatch ∧ s.trace = []) ∧
  (∀ (l : EngineLaunch) (pc : Word) (s : State),
    let t := resetEngine l pc s
    t.a = l.a ∧ t.x = l.x ∧ t.y = l.y ∧ t.sp = l.sp ∧ t.p = l.p ∧ t.pc = pc ∧ t.halted = false ∧
    t.mem = s.mem ∧ t.lastKey = s.lastKey ∧ t.kq = s.kq ∧ t.kc = s.kc ∧ t.kqActive = s.kqActive ∧
    t.dspLatch = s.dspLatch ∧ t.trace = s.trace)

/-! ### Settings: the parameters as arguments, `refuse` among their values (00_scope.md R8, 60_exceptions.md R302) -/

/-- R8, R13, R302, with R125, R126 and R291. Under a setting that settles every parameter as the machine does nothing is refused: it is
the machine. Under the default parameters an instruction is refused at an unsettled slot, at a zero-page pointer at `0xFF` and, these
apart, at an address sum past `0xFFFF`, and nowhere else. What an instruction or a step gives under a setting that does not refuse it,
it gives under every way to settle what the setting leaves unsettled. -/
def Obligations.SettingsRefuseTheOpenPointsAlone : Prop :=
  (∀ (i : Instr) (s : State), execUnder (.ofParams Config.params) i s = exec i s ∧ stepUnder (.ofParams Config.params) s = step s) ∧
  (∀ (o : IrqPushOffset) (w : Wr13Event) (i : Instr) (s : State),
    let g := Setting.default o w
    (i.op = .unsettled → execUnder g i s = .refused (.unsettled .unnamedC02Slot)) ∧
    (i.op ≠ .unsettled → PointerAtTop i s → execUnder g i s = .refused (.unsettled .zpPtrWrap)) ∧
    (i.op ≠ .unsettled → ¬ PointerAtTop i s → SumPastTop i s → execUnder g i s = .refused (.unsettled .addrOverflow)) ∧
    (i.op ≠ .unsettled → ¬ PointerAtTop i s → ¬ SumPastTop i s → ∃ t, execUnder g i s = .next t)) ∧
  (∀ (g : Setting) (d : Params) (s t : State), Allows g d →
    (∀ i : Instr, execUnder g i s = .next t → execUnder (.ofParams d) i s = .next t) ∧
    (stepUnder g s = .next t → stepUnder (.ofParams d) s = .next t))
end

