-- ==== Sys2Proof/Laws/Memory.lean ====
section
/-! SUPPORT. The laws of the memory array: what a read after a write gives, and that a write keeps the canonical form. -/

namespace Sys2Proof.Machine

/-- Every listed address of a canonical memory after `c` lies above `c`'s. -/
theorem Memory.lt_of_rising {c : Host.Cell} {m : Memory} (h : Memory.rising (c :: m) = true) :
    ∀ d ∈ m, c.1 < d.1 := by
  induction m generalizing c with
  | nil => simp
  | cons e m ih =>
    simp only [Memory.rising, Bool.and_eq_true, decide_eq_true_eq] at h
    intro d hd
    rcases List.mem_cons.mp hd with rfl | hd
    · exact h.1
    · exact Nat.lt_trans h.1 (ih h.2 d hd)

theorem Memory.rising_tail {c : Host.Cell} {m : Memory} (h : Memory.rising (c :: m) = true) :
    Memory.rising m = true := by
  cases m with
  | nil => rfl
  | cons e m => simp only [Memory.rising, Bool.and_eq_true] at h; exact h.2

theorem Memory.rising_cons {c : Host.Cell} {m : Memory} (hm : Memory.rising m = true)
    (h : ∀ d ∈ m, c.1 < d.1) : Memory.rising (c :: m) = true := by
  cases m with
  | nil => rfl
  | cons e m => simp [Memory.rising, hm, h e (by simp)]

/-- An address below every listed one reads as unlisted. -/
theorem Memory.read_of_lt {a : Nat} {m : Memory} (h : ∀ d ∈ m, a < d.1) :
    Memory.read a m = Config.unlistedByte := by
  induction m with
  | nil => rfl
  | cons c m ih =>
    have hc : c.1 ≠ a := Nat.ne_of_gt (h c (by simp))
    simp [Memory.read, hc, ih (fun d hd => h d (by simp [hd]))]

/-- Reading where the head cell was put. -/
theorem Memory.read_put {a b : Nat} {v : Byte} {m : Memory} (h : ∀ d ∈ m, a < d.1) :
    Memory.read b (Memory.put (a, v) m) = if b = a then v else Memory.read b m := by
  unfold Memory.put
  split
  · next hv =>
    split
    · next hb => subst hb; rw [Memory.read_of_lt h]; exact hv.symm
    · rfl
  · by_cases hb : b = a
    · simp [Memory.read, hb]
    · simp [Memory.read, hb, Ne.symm hb]

/-- R88: a read after a write gives the value written, and every other address reads as before. -/
theorem Memory.read_write {m : Memory} (hm : Memory.rising m = true) (a b : Nat) (v : Byte) :
    Memory.read b (Memory.write a v m) = if b = a then v else Memory.read b m := by
  induction m with
  | nil => exact Memory.read_put (by simp)
  | cons c m ih =>
    have hlt := Memory.lt_of_rising hm
    unfold Memory.write
    split
    · next hac =>
      refine Memory.read_put fun d hd => ?_
      rcases List.mem_cons.mp hd with rfl | hd
      · exact hac
      · exact Nat.lt_trans hac (hlt d hd)
    · split
      · next hac =>
        rw [Memory.read_put (fun d hd => hac ▸ hlt d hd)]
        by_cases hb : b = a
        · simp [hb]
        · have : c.1 ≠ b := fun hcb => hb (hcb.symm.trans hac.symm)
          simp [Memory.read, hb, this]
      · next hac =>
        simp only [Memory.read, ih (Memory.rising_tail hm)]
        by_cases hcb : c.1 = b
        · have : b ≠ a := fun hba => hac (hba.symm.trans hcb.symm)
          simp [hcb, this]
        · simp [hcb]

/-- A memory in the canonical form has rising addresses. -/
theorem Memory.rising_of_wf {m : Memory} (h : m.wf = true) : Memory.rising m = true := by
  simp only [Memory.wf, Bool.and_eq_true] at h
  exact h.1

/-- The cells of a write are the cells before and the one written, which is listed only if it differs from an unlisted one. -/
theorem Memory.mem_write {a : Nat} {v : Byte} {m : Memory} {d : Host.Cell} (h : d ∈ Memory.write a v m) :
    d ∈ m ∨ (d = (a, v) ∧ v ≠ Config.unlistedByte) := by
  have put {m' : Memory} (h : d ∈ Memory.put (a, v) m') :
      d ∈ m' ∨ (d = (a, v) ∧ v ≠ Config.unlistedByte) := by
    unfold Memory.put at h
    split at h
    · exact .inl h
    · next hv =>
      rcases List.mem_cons.mp h with rfl | h
      · exact .inr ⟨rfl, hv⟩
      · exact .inl h
  induction m with
  | nil => exact put h
  | cons c m ih =>
    unfold Memory.write at h
    split at h
    · exact put h
    · split at h
      · rcases put h with h | h
        · exact .inl (List.mem_cons_of_mem _ h)
        · exact .inr h
      · rcases List.mem_cons.mp h with rfl | h
        · exact .inl (by simp)
        · rcases ih h with h | h
          · exact .inl (List.mem_cons_of_mem _ h)
          · exact .inr h

/-- A write keeps the addresses rising. -/
theorem Memory.rising_write {m : Memory} (hm : Memory.rising m = true) (a : Nat) (v : Byte) :
    Memory.rising (Memory.write a v m) = true := by
  have put {m' : Memory} (hm' : Memory.rising m' = true) (h : ∀ d ∈ m', a < d.1) :
      Memory.rising (Memory.put (a, v) m') = true := by
    unfold Memory.put
    split
    · exact hm'
    · exact Memory.rising_cons hm' h
  induction m with
  | nil => exact put rfl (by simp)
  | cons c m ih =>
    have hlt := Memory.lt_of_rising hm
    have htl := Memory.rising_tail hm
    unfold Memory.write
    split
    · next hac =>
      refine put hm fun d hd => ?_
      rcases List.mem_cons.mp hd with rfl | hd
      · exact hac
      · exact Nat.lt_trans hac (hlt d hd)
    · split
      · next hac => exact put htl fun d hd => hac ▸ hlt d hd
      · next h1 h2 =>
        refine Memory.rising_cons (ih htl) fun d hd => ?_
        rcases Memory.mem_write hd with hd | ⟨rfl, -⟩
        · exact hlt d hd
        · exact Nat.lt_of_le_of_ne (Nat.le_of_not_lt h1) (fun h => h2 h.symm)

/-- A write to a RAM address keeps the canonical form. -/
theorem Memory.wf_write {m : Memory} (hm : m.wf = true) {a : Nat} (ha : isRam a = true) (v : Byte) :
    (Memory.write a v m).wf = true := by
  simp only [Memory.wf, Bool.and_eq_true, List.all_eq_true] at hm ⊢
  refine ⟨Memory.rising_write hm.1 a v, fun d hd => ?_⟩
  rcases Memory.mem_write hd with hd | ⟨rfl, hv⟩
  · exact hm.2 d hd
  · exact ⟨ha, by simpa using hv⟩

end Sys2Proof.Machine
end

