-- ==== Sys2Proof/Laws/State.lean ====
section
/-! SUPPORT. What every named update of the state does to every field of it: one lemma per field per update. -/

namespace Sys2Proof.Machine

variable (s : State)

@[simp] theorem State.setA_a (v : Byte) : (s.setA v).a = v := rfl
@[simp] theorem State.setA_x (v : Byte) : (s.setA v).x = s.x := rfl
@[simp] theorem State.setA_y (v : Byte) : (s.setA v).y = s.y := rfl
@[simp] theorem State.setA_sp (v : Byte) : (s.setA v).sp = s.sp := rfl
@[simp] theorem State.setA_pc (v : Byte) : (s.setA v).pc = s.pc := rfl
@[simp] theorem State.setA_p (v : Byte) : (s.setA v).p = s.p := rfl
@[simp] theorem State.setA_halted (v : Byte) : (s.setA v).halted = s.halted := rfl
@[simp] theorem State.setA_mem (v : Byte) : (s.setA v).mem = s.mem := rfl
@[simp] theorem State.setA_lastKey (v : Byte) : (s.setA v).lastKey = s.lastKey := rfl
@[simp] theorem State.setA_kq (v : Byte) : (s.setA v).kq = s.kq := rfl
@[simp] theorem State.setA_kc (v : Byte) : (s.setA v).kc = s.kc := rfl
@[simp] theorem State.setA_kqActive (v : Byte) : (s.setA v).kqActive = s.kqActive := rfl
@[simp] theorem State.setA_dspLatch (v : Byte) : (s.setA v).dspLatch = s.dspLatch := rfl
@[simp] theorem State.setA_trace (v : Byte) : (s.setA v).trace = s.trace := rfl
@[simp] theorem State.setA_draws (v : Byte) : (s.setA v).draws = s.draws := rfl

@[simp] theorem State.setX_a (v : Byte) : (s.setX v).a = s.a := rfl
@[simp] theorem State.setX_x (v : Byte) : (s.setX v).x = v := rfl
@[simp] theorem State.setX_y (v : Byte) : (s.setX v).y = s.y := rfl
@[simp] theorem State.setX_sp (v : Byte) : (s.setX v).sp = s.sp := rfl
@[simp] theorem State.setX_pc (v : Byte) : (s.setX v).pc = s.pc := rfl
@[simp] theorem State.setX_p (v : Byte) : (s.setX v).p = s.p := rfl
@[simp] theorem State.setX_halted (v : Byte) : (s.setX v).halted = s.halted := rfl
@[simp] theorem State.setX_mem (v : Byte) : (s.setX v).mem = s.mem := rfl
@[simp] theorem State.setX_lastKey (v : Byte) : (s.setX v).lastKey = s.lastKey := rfl
@[simp] theorem State.setX_kq (v : Byte) : (s.setX v).kq = s.kq := rfl
@[simp] theorem State.setX_kc (v : Byte) : (s.setX v).kc = s.kc := rfl
@[simp] theorem State.setX_kqActive (v : Byte) : (s.setX v).kqActive = s.kqActive := rfl
@[simp] theorem State.setX_dspLatch (v : Byte) : (s.setX v).dspLatch = s.dspLatch := rfl
@[simp] theorem State.setX_trace (v : Byte) : (s.setX v).trace = s.trace := rfl
@[simp] theorem State.setX_draws (v : Byte) : (s.setX v).draws = s.draws := rfl

@[simp] theorem State.setY_a (v : Byte) : (s.setY v).a = s.a := rfl
@[simp] theorem State.setY_x (v : Byte) : (s.setY v).x = s.x := rfl
@[simp] theorem State.setY_y (v : Byte) : (s.setY v).y = v := rfl
@[simp] theorem State.setY_sp (v : Byte) : (s.setY v).sp = s.sp := rfl
@[simp] theorem State.setY_pc (v : Byte) : (s.setY v).pc = s.pc := rfl
@[simp] theorem State.setY_p (v : Byte) : (s.setY v).p = s.p := rfl
@[simp] theorem State.setY_halted (v : Byte) : (s.setY v).halted = s.halted := rfl
@[simp] theorem State.setY_mem (v : Byte) : (s.setY v).mem = s.mem := rfl
@[simp] theorem State.setY_lastKey (v : Byte) : (s.setY v).lastKey = s.lastKey := rfl
@[simp] theorem State.setY_kq (v : Byte) : (s.setY v).kq = s.kq := rfl
@[simp] theorem State.setY_kc (v : Byte) : (s.setY v).kc = s.kc := rfl
@[simp] theorem State.setY_kqActive (v : Byte) : (s.setY v).kqActive = s.kqActive := rfl
@[simp] theorem State.setY_dspLatch (v : Byte) : (s.setY v).dspLatch = s.dspLatch := rfl
@[simp] theorem State.setY_trace (v : Byte) : (s.setY v).trace = s.trace := rfl
@[simp] theorem State.setY_draws (v : Byte) : (s.setY v).draws = s.draws := rfl

@[simp] theorem State.setSp_a (v : Byte) : (s.setSp v).a = s.a := rfl
@[simp] theorem State.setSp_x (v : Byte) : (s.setSp v).x = s.x := rfl
@[simp] theorem State.setSp_y (v : Byte) : (s.setSp v).y = s.y := rfl
@[simp] theorem State.setSp_sp (v : Byte) : (s.setSp v).sp = v := rfl
@[simp] theorem State.setSp_pc (v : Byte) : (s.setSp v).pc = s.pc := rfl
@[simp] theorem State.setSp_p (v : Byte) : (s.setSp v).p = s.p := rfl
@[simp] theorem State.setSp_halted (v : Byte) : (s.setSp v).halted = s.halted := rfl
@[simp] theorem State.setSp_mem (v : Byte) : (s.setSp v).mem = s.mem := rfl
@[simp] theorem State.setSp_lastKey (v : Byte) : (s.setSp v).lastKey = s.lastKey := rfl
@[simp] theorem State.setSp_kq (v : Byte) : (s.setSp v).kq = s.kq := rfl
@[simp] theorem State.setSp_kc (v : Byte) : (s.setSp v).kc = s.kc := rfl
@[simp] theorem State.setSp_kqActive (v : Byte) : (s.setSp v).kqActive = s.kqActive := rfl
@[simp] theorem State.setSp_dspLatch (v : Byte) : (s.setSp v).dspLatch = s.dspLatch := rfl
@[simp] theorem State.setSp_trace (v : Byte) : (s.setSp v).trace = s.trace := rfl
@[simp] theorem State.setSp_draws (v : Byte) : (s.setSp v).draws = s.draws := rfl

@[simp] theorem State.setPc_a (v : Word) : (s.setPc v).a = s.a := rfl
@[simp] theorem State.setPc_x (v : Word) : (s.setPc v).x = s.x := rfl
@[simp] theorem State.setPc_y (v : Word) : (s.setPc v).y = s.y := rfl
@[simp] theorem State.setPc_sp (v : Word) : (s.setPc v).sp = s.sp := rfl
@[simp] theorem State.setPc_pc (v : Word) : (s.setPc v).pc = v := rfl
@[simp] theorem State.setPc_p (v : Word) : (s.setPc v).p = s.p := rfl
@[simp] theorem State.setPc_halted (v : Word) : (s.setPc v).halted = s.halted := rfl
@[simp] theorem State.setPc_mem (v : Word) : (s.setPc v).mem = s.mem := rfl
@[simp] theorem State.setPc_lastKey (v : Word) : (s.setPc v).lastKey = s.lastKey := rfl
@[simp] theorem State.setPc_kq (v : Word) : (s.setPc v).kq = s.kq := rfl
@[simp] theorem State.setPc_kc (v : Word) : (s.setPc v).kc = s.kc := rfl
@[simp] theorem State.setPc_kqActive (v : Word) : (s.setPc v).kqActive = s.kqActive := rfl
@[simp] theorem State.setPc_dspLatch (v : Word) : (s.setPc v).dspLatch = s.dspLatch := rfl
@[simp] theorem State.setPc_trace (v : Word) : (s.setPc v).trace = s.trace := rfl
@[simp] theorem State.setPc_draws (v : Word) : (s.setPc v).draws = s.draws := rfl

@[simp] theorem State.setP_a (v : Flags) : (s.setP v).a = s.a := rfl
@[simp] theorem State.setP_x (v : Flags) : (s.setP v).x = s.x := rfl
@[simp] theorem State.setP_y (v : Flags) : (s.setP v).y = s.y := rfl
@[simp] theorem State.setP_sp (v : Flags) : (s.setP v).sp = s.sp := rfl
@[simp] theorem State.setP_pc (v : Flags) : (s.setP v).pc = s.pc := rfl
@[simp] theorem State.setP_p (v : Flags) : (s.setP v).p = v := rfl
@[simp] theorem State.setP_halted (v : Flags) : (s.setP v).halted = s.halted := rfl
@[simp] theorem State.setP_mem (v : Flags) : (s.setP v).mem = s.mem := rfl
@[simp] theorem State.setP_lastKey (v : Flags) : (s.setP v).lastKey = s.lastKey := rfl
@[simp] theorem State.setP_kq (v : Flags) : (s.setP v).kq = s.kq := rfl
@[simp] theorem State.setP_kc (v : Flags) : (s.setP v).kc = s.kc := rfl
@[simp] theorem State.setP_kqActive (v : Flags) : (s.setP v).kqActive = s.kqActive := rfl
@[simp] theorem State.setP_dspLatch (v : Flags) : (s.setP v).dspLatch = s.dspLatch := rfl
@[simp] theorem State.setP_trace (v : Flags) : (s.setP v).trace = s.trace := rfl
@[simp] theorem State.setP_draws (v : Flags) : (s.setP v).draws = s.draws := rfl

@[simp] theorem State.setMem_a (v : Memory) : (s.setMem v).a = s.a := rfl
@[simp] theorem State.setMem_x (v : Memory) : (s.setMem v).x = s.x := rfl
@[simp] theorem State.setMem_y (v : Memory) : (s.setMem v).y = s.y := rfl
@[simp] theorem State.setMem_sp (v : Memory) : (s.setMem v).sp = s.sp := rfl
@[simp] theorem State.setMem_pc (v : Memory) : (s.setMem v).pc = s.pc := rfl
@[simp] theorem State.setMem_p (v : Memory) : (s.setMem v).p = s.p := rfl
@[simp] theorem State.setMem_halted (v : Memory) : (s.setMem v).halted = s.halted := rfl
@[simp] theorem State.setMem_mem (v : Memory) : (s.setMem v).mem = v := rfl
@[simp] theorem State.setMem_lastKey (v : Memory) : (s.setMem v).lastKey = s.lastKey := rfl
@[simp] theorem State.setMem_kq (v : Memory) : (s.setMem v).kq = s.kq := rfl
@[simp] theorem State.setMem_kc (v : Memory) : (s.setMem v).kc = s.kc := rfl
@[simp] theorem State.setMem_kqActive (v : Memory) : (s.setMem v).kqActive = s.kqActive := rfl
@[simp] theorem State.setMem_dspLatch (v : Memory) : (s.setMem v).dspLatch = s.dspLatch := rfl
@[simp] theorem State.setMem_trace (v : Memory) : (s.setMem v).trace = s.trace := rfl
@[simp] theorem State.setMem_draws (v : Memory) : (s.setMem v).draws = s.draws := rfl

@[simp] theorem State.setNZ_a (v : Byte) : (s.setNZ v).a = s.a := rfl
@[simp] theorem State.setNZ_x (v : Byte) : (s.setNZ v).x = s.x := rfl
@[simp] theorem State.setNZ_y (v : Byte) : (s.setNZ v).y = s.y := rfl
@[simp] theorem State.setNZ_sp (v : Byte) : (s.setNZ v).sp = s.sp := rfl
@[simp] theorem State.setNZ_pc (v : Byte) : (s.setNZ v).pc = s.pc := rfl
@[simp] theorem State.setNZ_p (v : Byte) : (s.setNZ v).p = s.p.setNZ v := rfl
@[simp] theorem State.setNZ_halted (v : Byte) : (s.setNZ v).halted = s.halted := rfl
@[simp] theorem State.setNZ_mem (v : Byte) : (s.setNZ v).mem = s.mem := rfl
@[simp] theorem State.setNZ_lastKey (v : Byte) : (s.setNZ v).lastKey = s.lastKey := rfl
@[simp] theorem State.setNZ_kq (v : Byte) : (s.setNZ v).kq = s.kq := rfl
@[simp] theorem State.setNZ_kc (v : Byte) : (s.setNZ v).kc = s.kc := rfl
@[simp] theorem State.setNZ_kqActive (v : Byte) : (s.setNZ v).kqActive = s.kqActive := rfl
@[simp] theorem State.setNZ_dspLatch (v : Byte) : (s.setNZ v).dspLatch = s.dspLatch := rfl
@[simp] theorem State.setNZ_trace (v : Byte) : (s.setNZ v).trace = s.trace := rfl
@[simp] theorem State.setNZ_draws (v : Byte) : (s.setNZ v).draws = s.draws := rfl

@[simp] theorem State.halt_a : (s.halt).a = s.a := rfl
@[simp] theorem State.halt_x : (s.halt).x = s.x := rfl
@[simp] theorem State.halt_y : (s.halt).y = s.y := rfl
@[simp] theorem State.halt_sp : (s.halt).sp = s.sp := rfl
@[simp] theorem State.halt_pc : (s.halt).pc = s.pc := rfl
@[simp] theorem State.halt_p : (s.halt).p = s.p := rfl
@[simp] theorem State.halt_halted : (s.halt).halted = true := rfl
@[simp] theorem State.halt_mem : (s.halt).mem = s.mem := rfl
@[simp] theorem State.halt_lastKey : (s.halt).lastKey = s.lastKey := rfl
@[simp] theorem State.halt_kq : (s.halt).kq = s.kq := rfl
@[simp] theorem State.halt_kc : (s.halt).kc = s.kc := rfl
@[simp] theorem State.halt_kqActive : (s.halt).kqActive = s.kqActive := rfl
@[simp] theorem State.halt_dspLatch : (s.halt).dspLatch = s.dspLatch := rfl
@[simp] theorem State.halt_trace : (s.halt).trace = s.trace := rfl
@[simp] theorem State.halt_draws : (s.halt).draws = s.draws := rfl

@[simp] theorem State.emit_a (e : Event) : (s.emit e).a = s.a := rfl
@[simp] theorem State.emit_x (e : Event) : (s.emit e).x = s.x := rfl
@[simp] theorem State.emit_y (e : Event) : (s.emit e).y = s.y := rfl
@[simp] theorem State.emit_sp (e : Event) : (s.emit e).sp = s.sp := rfl
@[simp] theorem State.emit_pc (e : Event) : (s.emit e).pc = s.pc := rfl
@[simp] theorem State.emit_p (e : Event) : (s.emit e).p = s.p := rfl
@[simp] theorem State.emit_halted (e : Event) : (s.emit e).halted = s.halted := rfl
@[simp] theorem State.emit_mem (e : Event) : (s.emit e).mem = s.mem := rfl
@[simp] theorem State.emit_lastKey (e : Event) : (s.emit e).lastKey = s.lastKey := rfl
@[simp] theorem State.emit_kq (e : Event) : (s.emit e).kq = s.kq := rfl
@[simp] theorem State.emit_kc (e : Event) : (s.emit e).kc = s.kc := rfl
@[simp] theorem State.emit_kqActive (e : Event) : (s.emit e).kqActive = s.kqActive := rfl
@[simp] theorem State.emit_dspLatch (e : Event) : (s.emit e).dspLatch = s.dspLatch := rfl
@[simp] theorem State.emit_trace (e : Event) : (s.emit e).trace = s.trace ++ [e] := rfl
@[simp] theorem State.emit_draws (e : Event) : (s.emit e).draws = s.draws := rfl

@[simp] theorem State.useDraws_a (n : Nat) : (s.useDraws n).a = s.a := rfl
@[simp] theorem State.useDraws_x (n : Nat) : (s.useDraws n).x = s.x := rfl
@[simp] theorem State.useDraws_y (n : Nat) : (s.useDraws n).y = s.y := rfl
@[simp] theorem State.useDraws_sp (n : Nat) : (s.useDraws n).sp = s.sp := rfl
@[simp] theorem State.useDraws_pc (n : Nat) : (s.useDraws n).pc = s.pc := rfl
@[simp] theorem State.useDraws_p (n : Nat) : (s.useDraws n).p = s.p := rfl
@[simp] theorem State.useDraws_halted (n : Nat) : (s.useDraws n).halted = s.halted := rfl
@[simp] theorem State.useDraws_mem (n : Nat) : (s.useDraws n).mem = s.mem := rfl
@[simp] theorem State.useDraws_lastKey (n : Nat) : (s.useDraws n).lastKey = s.lastKey := rfl
@[simp] theorem State.useDraws_kq (n : Nat) : (s.useDraws n).kq = s.kq := rfl
@[simp] theorem State.useDraws_kc (n : Nat) : (s.useDraws n).kc = s.kc := rfl
@[simp] theorem State.useDraws_kqActive (n : Nat) : (s.useDraws n).kqActive = s.kqActive := rfl
@[simp] theorem State.useDraws_dspLatch (n : Nat) : (s.useDraws n).dspLatch = s.dspLatch := rfl
@[simp] theorem State.useDraws_trace (n : Nat) : (s.useDraws n).trace = s.trace := rfl
@[simp] theorem State.useDraws_draws (n : Nat) : (s.useDraws n).draws = s.draws + n := rfl

@[simp] theorem State.advance_a : (s.advance).a = s.a := rfl
@[simp] theorem State.advance_x : (s.advance).x = s.x := rfl
@[simp] theorem State.advance_y : (s.advance).y = s.y := rfl
@[simp] theorem State.advance_sp : (s.advance).sp = s.sp := rfl
@[simp] theorem State.advance_pc : (s.advance).pc = s.pc + 1 := rfl
@[simp] theorem State.advance_p : (s.advance).p = s.p := rfl
@[simp] theorem State.advance_halted : (s.advance).halted = s.halted := rfl
@[simp] theorem State.advance_mem : (s.advance).mem = s.mem := rfl
@[simp] theorem State.advance_lastKey : (s.advance).lastKey = s.lastKey := rfl
@[simp] theorem State.advance_kq : (s.advance).kq = s.kq := rfl
@[simp] theorem State.advance_kc : (s.advance).kc = s.kc := rfl
@[simp] theorem State.advance_kqActive : (s.advance).kqActive = s.kqActive := rfl
@[simp] theorem State.advance_dspLatch : (s.advance).dspLatch = s.dspLatch := rfl
@[simp] theorem State.advance_trace : (s.advance).trace = s.trace := rfl
@[simp] theorem State.advance_draws : (s.advance).draws = s.draws := rfl

end Sys2Proof.Machine
end

