-- ==== Sys2Proof/Laws/Bus.lean ====
section
/-! SUPPORT. What a bus access can do: a read keeps `ReadFrame` and PC, a write keeps every register, and both keep the invariant. -/

namespace Sys2Proof.Machine

theorem ReadFrame.refl (s : State) : ReadFrame s s :=
  ⟨rfl, rfl, rfl, rfl, rfl, rfl, rfl, rfl, rfl, rfl, [], (List.append_nil _).symm⟩

theorem ReadFrame.trans {s t u : State} (h : ReadFrame s t) (k : ReadFrame t u) : ReadFrame s u := by
  obtain ⟨e, he⟩ := h.trace
  obtain ⟨f, hf⟩ := k.trace
  exact ⟨k.a.trans h.a, k.x.trans h.x, k.y.trans h.y, k.sp.trans h.sp, k.p.trans h.p, k.halted.trans h.halted,
    k.mem.trans h.mem, k.kq.trans h.kq, k.dspLatch.trans h.dspLatch, k.draws.trans h.draws, e ++ f,
    by rw [hf, he, List.append_assoc]⟩

theorem ReadFrame.emit (s : State) (e : Event) : ReadFrame s (s.emit e) :=
  ⟨rfl, rfl, rfl, rfl, rfl, rfl, rfl, rfl, rfl, rfl, [e], rfl⟩

theorem ReadFrame.setPc (s : State) (w : Word) : ReadFrame s (s.setPc w) :=
  ⟨rfl, rfl, rfl, rfl, rfl, rfl, rfl, rfl, rfl, rfl, [], (List.append_nil _).symm⟩

theorem ReadFrame.warnLow (a : Nat) (s : State) : ReadFrame s (warnLow a s) := by
  unfold Machine.warnLow
  split
  · exact .emit s _
  · exact .refl s

theorem kbdDataRead_frame (s : State) : ReadFrame s (kbdDataRead s).2 := by
  have base (t : State) (h : ReadFrame s t) (b : Prop) [Decidable b] : ReadFrame s (if b then t.emit (.warn .noKey) else t) := by
    split
    · exact h.trans (.emit t _)
    · exact h
  refine base _ ?_ _
  split <;> exact ⟨rfl, rfl, rfl, rfl, rfl, rfl, rfl, rfl, rfl, rfl, [], (List.append_nil _).symm⟩

/-- A bus read keeps everything but the keyboard's consumption and the trace. -/
theorem busRead_frame (a : Nat) (s : State) : ReadFrame s (busRead a s).2 := by
  simp only [busRead, periphRead]
  split_ifs
  · exact .emit s _
  · exact kbdDataRead_frame s
  · exact .refl s
  · exact .refl s
  · exact .emit s _
  · exact .emit s _
  · exact .warnLow a s

@[simp] theorem warnLow_pc (a : Nat) (s : State) : (warnLow a s).pc = s.pc := by unfold warnLow; split <;> rfl
@[simp] theorem warnLow_mem (a : Nat) (s : State) : (warnLow a s).mem = s.mem := (ReadFrame.warnLow a s).mem

/-- A bus read does not move PC. -/
@[simp] theorem busRead_pc (a : Nat) (s : State) : (busRead a s).2.pc = s.pc := by
  simp only [busRead, periphRead, kbdDataRead]
  split_ifs <;> simp

@[simp] theorem busRead_a (a : Nat) (s : State) : (busRead a s).2.a = s.a := (busRead_frame a s).a
@[simp] theorem busRead_x (a : Nat) (s : State) : (busRead a s).2.x = s.x := (busRead_frame a s).x
@[simp] theorem busRead_y (a : Nat) (s : State) : (busRead a s).2.y = s.y := (busRead_frame a s).y
@[simp] theorem busRead_sp (a : Nat) (s : State) : (busRead a s).2.sp = s.sp := (busRead_frame a s).sp
@[simp] theorem busRead_p (a : Nat) (s : State) : (busRead a s).2.p = s.p := (busRead_frame a s).p
@[simp] theorem busRead_halted (a : Nat) (s : State) : (busRead a s).2.halted = s.halted := (busRead_frame a s).halted
@[simp] theorem busRead_mem (a : Nat) (s : State) : (busRead a s).2.mem = s.mem := (busRead_frame a s).mem
@[simp] theorem busRead_kq (a : Nat) (s : State) : (busRead a s).2.kq = s.kq := (busRead_frame a s).kq
@[simp] theorem busRead_dspLatch (a : Nat) (s : State) : (busRead a s).2.dspLatch = s.dspLatch := (busRead_frame a s).dspLatch
@[simp] theorem busRead_draws (a : Nat) (s : State) : (busRead a s).2.draws = s.draws := (busRead_frame a s).draws

/-- A bus read of plain RAM gives the byte and changes nothing. -/
theorem busRead_ram {a : Nat} (h : isRam a = true) (h1 : 1 < a) (s : State) : busRead a s = (s.mem.read a, s) := by
  simp only [isRam, Bool.and_eq_true, decide_eq_true_eq, Bool.not_eq_true'] at h
  simp [busRead, Nat.not_lt.mpr h.1, h.2, warnLow, Nat.not_le.mpr h1]

/-! ### The keyboard queue's invariant (R60) -/

/-- An active queue that is left alone, or moved on by one, keeps a byte left. -/
theorem kbdDataRead_queueOk {s : State} (h : s.queueOk = true) : (kbdDataRead s).2.queueOk = true := by
  simp only [State.queueOk, Bool.or_eq_true, Bool.not_eq_true', decide_eq_true_eq] at h
  have key (t : State) (b : Prop) [Decidable b] (ht : t.queueOk = true) :
      (if b then t.emit (.warn .noKey) else t).queueOk = true := by split <;> exact ht
  refine key _ _ ?_
  by_cases hq : s.kqActive = true
  · have hlt : s.kc < s.kq.length := h.resolve_left (by simp [hq])
    by_cases he : s.kc + 1 = s.kq.length
    · simp [State.queueOk, hq, he]
    · simp [State.queueOk, hq, he]
      omega
  · simp [State.queueOk, hq]

/-- A bus read keeps the keyboard queue's invariant. -/
theorem busRead_queueOk {s : State} (h : s.queueOk = true) (a : Nat) : (busRead a s).2.queueOk = true := by
  simp only [busRead, periphRead, warnLow]
  split_ifs <;> first | exact h | exact kbdDataRead_queueOk h

/-- A bus read keeps the invariant. -/
theorem busRead_inv {s : State} (h : s.Inv) (a : Nat) : (busRead a s).2.Inv :=
  ⟨by rw [busRead_mem]; exact h.1, busRead_queueOk h.2 a⟩

/-! ### Writes -/

/-- What a bus write may change: one byte of RAM, the display latch, and events appended to the trace. -/
structure WriteFrame (a : Nat) (v : Byte) (s t : State) : Prop where
  a' : t.a = s.a
  x : t.x = s.x
  y : t.y = s.y
  sp : t.sp = s.sp
  pc : t.pc = s.pc
  p : t.p = s.p
  halted : t.halted = s.halted
  lastKey : t.lastKey = s.lastKey
  kq : t.kq = s.kq
  kc : t.kc = s.kc
  kqActive : t.kqActive = s.kqActive
  draws : t.draws = s.draws
  mem : t.mem = if isRam a then s.mem.write a v else s.mem
  dspLatch : t.dspLatch = s.dspLatch ∨ inWindow a = true ∧ t.dspLatch = v
  trace : ∃ evs, t.trace = s.trace ++ evs

theorem isRam_eq_false {a : Nat} (h : a > 0xFFFF ∨ inWindow a = true) : isRam a = false := by
  rcases h with h | h
  · simp [isRam, h]
  · simp [isRam, h]

theorem WriteFrame.refl {a : Nat} (h : isRam a = false) (v : Byte) (s : State) : WriteFrame a v s s := by
  constructor <;> simp [h]

theorem WriteFrame.emit {a : Nat} (h : isRam a = false) (v : Byte) (s : State) (e : Event) :
    WriteFrame a v s (s.emit e) := by
  constructor <;> simp [h]

theorem WriteFrame.display {a : Nat} (h : inWindow a = true) (v : Byte) (s : State) :
    WriteFrame a v s (dspDataWrite v s) := by
  have := isRam_eq_false (.inr h)
  constructor <;> simp [dspDataWrite, *]

theorem WriteFrame.ram {a : Nat} (h : isRam a = true) (v : Byte) (s : State) :
    WriteFrame a v s ((warnLow a s).setMem ((warnLow a s).mem.write a v)) := by
  unfold warnLow
  split <;> constructor <;> simp [h]

/-- A bus write does nothing but what `WriteFrame` says. -/
theorem busWrite_frame (c : Params) (a : Nat) (v : Byte) (s : State) : WriteFrame a v s (busWrite c a v s) := by
  unfold busWrite
  split
  · next h => exact .emit (isRam_eq_false (.inl h)) v s _
  · split
    · next h =>
      have hr := isRam_eq_false (.inr h)
      simp only [periphWrite]
      split_ifs
      · exact .emit hr v s _
      · exact .display h v s
      · unfold dspStatusWrite
        split
        · exact .refl hr v s
        · exact .emit hr v s _
        · exact .emit hr v s _
      · exact .emit hr v s _
    · next hb hw => exact .ram (by simp [isRam, hw, Nat.not_lt.mp hb]) v s

@[simp] theorem busWrite_a (c : Params) (a : Nat) (v : Byte) (s : State) : (busWrite c a v s).a = s.a := (busWrite_frame c a v s).a'
@[simp] theorem busWrite_x (c : Params) (a : Nat) (v : Byte) (s : State) : (busWrite c a v s).x = s.x := (busWrite_frame c a v s).x
@[simp] theorem busWrite_y (c : Params) (a : Nat) (v : Byte) (s : State) : (busWrite c a v s).y = s.y := (busWrite_frame c a v s).y
@[simp] theorem busWrite_sp (c : Params) (a : Nat) (v : Byte) (s : State) : (busWrite c a v s).sp = s.sp := (busWrite_frame c a v s).sp
@[simp] theorem busWrite_pc (c : Params) (a : Nat) (v : Byte) (s : State) : (busWrite c a v s).pc = s.pc := (busWrite_frame c a v s).pc
@[simp] theorem busWrite_p (c : Params) (a : Nat) (v : Byte) (s : State) : (busWrite c a v s).p = s.p := (busWrite_frame c a v s).p
@[simp] theorem busWrite_halted (c : Params) (a : Nat) (v : Byte) (s : State) : (busWrite c a v s).halted = s.halted := (busWrite_frame c a v s).halted
@[simp] theorem busWrite_kq (c : Params) (a : Nat) (v : Byte) (s : State) : (busWrite c a v s).kq = s.kq := (busWrite_frame c a v s).kq
@[simp] theorem busWrite_draws (c : Params) (a : Nat) (v : Byte) (s : State) : (busWrite c a v s).draws = s.draws := (busWrite_frame c a v s).draws

/-- A bus write keeps the invariant. -/
theorem busWrite_inv {s : State} (h : s.Inv) (c : Params) (a : Nat) (v : Byte) : (busWrite c a v s).Inv := by
  have f := busWrite_frame c a v s
  refine ⟨?_, ?_⟩
  · rw [f.mem]
    split
    · next ha => exact Memory.wf_write h.1 ha v
    · exact h.1
  · have hq := h.2
    simp only [State.queueOk, f.kqActive, f.kc, f.kq] at hq ⊢
    exact hq

/-- A bus write to plain RAM writes the byte and nothing else. -/
theorem busWrite_ram {a : Nat} (h : isRam a = true) (h1 : 1 < a) (c : Params) (v : Byte) (s : State) :
    busWrite c a v s = s.setMem (s.mem.write a v) := by
  simp only [isRam, Bool.and_eq_true, decide_eq_true_eq, Bool.not_eq_true'] at h
  simp [busWrite, Nat.not_lt.mpr h.1, h.2, warnLow, Nat.not_le.mpr h1]

end Sys2Proof.Machine
end

