-- ==== Sys2Proof/Laws/Decode.lean ====
section
/-! SUPPORT. What each opcode byte decodes to (30_encoding.md R106), one lemma per row. -/

namespace Sys2Proof

variable (b1 b2 : Byte)

@[simp] theorem decodeOpcode_ldaIndX : decodeOpcode 0xA1 b1 b2 = .ldaIndX b1 := rfl
@[simp] theorem decodeOpcode_ldaZp : decodeOpcode 0xA5 b1 b2 = .ldaZp b1 := rfl
@[simp] theorem decodeOpcode_ldaImm : decodeOpcode 0xA9 b1 b2 = .ldaImm b1 := rfl
@[simp] theorem decodeOpcode_ldaAbs : decodeOpcode 0xAD b1 b2 = .ldaAbs (wordOf b2 b1) := rfl
@[simp] theorem decodeOpcode_ldaIndY : decodeOpcode 0xB1 b1 b2 = .ldaIndY b1 := rfl
@[simp] theorem decodeOpcode_ldaIndZp : decodeOpcode 0xB2 b1 b2 = .ldaIndZp b1 := rfl
@[simp] theorem decodeOpcode_ldaZpX : decodeOpcode 0xB5 b1 b2 = .ldaZpX b1 := rfl
@[simp] theorem decodeOpcode_ldaAbsY : decodeOpcode 0xB9 b1 b2 = .ldaAbsY (wordOf b2 b1) := rfl
@[simp] theorem decodeOpcode_ldaAbsX : decodeOpcode 0xBD b1 b2 = .ldaAbsX (wordOf b2 b1) := rfl
@[simp] theorem decodeOpcode_ldxImm : decodeOpcode 0xA2 b1 b2 = .ldxImm b1 := rfl
@[simp] theorem decodeOpcode_ldxZp : decodeOpcode 0xA6 b1 b2 = .ldxZp b1 := rfl
@[simp] theorem decodeOpcode_ldxAbs : decodeOpcode 0xAE b1 b2 = .ldxAbs (wordOf b2 b1) := rfl
@[simp] theorem decodeOpcode_ldxZpY : decodeOpcode 0xB6 b1 b2 = .ldxZpY b1 := rfl
@[simp] theorem decodeOpcode_ldxAbsY : decodeOpcode 0xBE b1 b2 = .ldxAbsY (wordOf b2 b1) := rfl
@[simp] theorem decodeOpcode_ldyImm : decodeOpcode 0xA0 b1 b2 = .ldyImm b1 := rfl
@[simp] theorem decodeOpcode_ldyZp : decodeOpcode 0xA4 b1 b2 = .ldyZp b1 := rfl
@[simp] theorem decodeOpcode_ldyAbs : decodeOpcode 0xAC b1 b2 = .ldyAbs (wordOf b2 b1) := rfl
@[simp] theorem decodeOpcode_ldyZpX : decodeOpcode 0xB4 b1 b2 = .ldyZpX b1 := rfl
@[simp] theorem decodeOpcode_ldyAbsX : decodeOpcode 0xBC b1 b2 = .ldyAbsX (wordOf b2 b1) := rfl
@[simp] theorem decodeOpcode_staIndX : decodeOpcode 0x81 b1 b2 = .staIndX b1 := rfl
@[simp] theorem decodeOpcode_staZp : decodeOpcode 0x85 b1 b2 = .staZp b1 := rfl
@[simp] theorem decodeOpcode_staAbs : decodeOpcode 0x8D b1 b2 = .staAbs (wordOf b2 b1) := rfl
@[simp] theorem decodeOpcode_staIndY : decodeOpcode 0x91 b1 b2 = .staIndY b1 := rfl
@[simp] theorem decodeOpcode_staIndZp : decodeOpcode 0x92 b1 b2 = .staIndZp b1 := rfl
@[simp] theorem decodeOpcode_staZpX : decodeOpcode 0x95 b1 b2 = .staZpX b1 := rfl
@[simp] theorem decodeOpcode_staAbsY : decodeOpcode 0x99 b1 b2 = .staAbsY (wordOf b2 b1) := rfl
@[simp] theorem decodeOpcode_staAbsX : decodeOpcode 0x9D b1 b2 = .staAbsX (wordOf b2 b1) := rfl
@[simp] theorem decodeOpcode_stxZp : decodeOpcode 0x86 b1 b2 = .stxZp b1 := rfl
@[simp] theorem decodeOpcode_stxAbs : decodeOpcode 0x8E b1 b2 = .stxAbs (wordOf b2 b1) := rfl
@[simp] theorem decodeOpcode_stxZpY : decodeOpcode 0x96 b1 b2 = .stxZpY b1 := rfl
@[simp] theorem decodeOpcode_styZp : decodeOpcode 0x84 b1 b2 = .styZp b1 := rfl
@[simp] theorem decodeOpcode_styAbs : decodeOpcode 0x8C b1 b2 = .styAbs (wordOf b2 b1) := rfl
@[simp] theorem decodeOpcode_styZpX : decodeOpcode 0x94 b1 b2 = .styZpX b1 := rfl
@[simp] theorem decodeOpcode_tax : decodeOpcode 0xAA b1 b2 = .tax := rfl
@[simp] theorem decodeOpcode_tay : decodeOpcode 0xA8 b1 b2 = .tay := rfl
@[simp] theorem decodeOpcode_txa : decodeOpcode 0x8A b1 b2 = .txa := rfl
@[simp] theorem decodeOpcode_tya : decodeOpcode 0x98 b1 b2 = .tya := rfl
@[simp] theorem decodeOpcode_tsx : decodeOpcode 0xBA b1 b2 = .tsx := rfl
@[simp] theorem decodeOpcode_txs : decodeOpcode 0x9A b1 b2 = .txs := rfl
@[simp] theorem decodeOpcode_adcIndX : decodeOpcode 0x61 b1 b2 = .adcIndX b1 := rfl
@[simp] theorem decodeOpcode_adcZp : decodeOpcode 0x65 b1 b2 = .adcZp b1 := rfl
@[simp] theorem decodeOpcode_adcImm : decodeOpcode 0x69 b1 b2 = .adcImm b1 := rfl
@[simp] theorem decodeOpcode_adcAbs : decodeOpcode 0x6D b1 b2 = .adcAbs (wordOf b2 b1) := rfl
@[simp] theorem decodeOpcode_adcIndY : decodeOpcode 0x71 b1 b2 = .adcIndY b1 := rfl
@[simp] theorem decodeOpcode_adcIndZp : decodeOpcode 0x72 b1 b2 = .adcIndZp b1 := rfl
@[simp] theorem decodeOpcode_adcZpX : decodeOpcode 0x75 b1 b2 = .adcZpX b1 := rfl
@[simp] theorem decodeOpcode_adcAbsY : decodeOpcode 0x79 b1 b2 = .adcAbsY (wordOf b2 b1) := rfl
@[simp] theorem decodeOpcode_adcAbsX : decodeOpcode 0x7D b1 b2 = .adcAbsX (wordOf b2 b1) := rfl
@[simp] theorem decodeOpcode_sbcIndX : decodeOpcode 0xE1 b1 b2 = .sbcIndX b1 := rfl
@[simp] theorem decodeOpcode_sbcZp : decodeOpcode 0xE5 b1 b2 = .sbcZp b1 := rfl
@[simp] theorem decodeOpcode_sbcImm : decodeOpcode 0xE9 b1 b2 = .sbcImm b1 := rfl
@[simp] theorem decodeOpcode_sbcAbs : decodeOpcode 0xED b1 b2 = .sbcAbs (wordOf b2 b1) := rfl
@[simp] theorem decodeOpcode_sbcIndY : decodeOpcode 0xF1 b1 b2 = .sbcIndY b1 := rfl
@[simp] theorem decodeOpcode_sbcIndZp : decodeOpcode 0xF2 b1 b2 = .sbcIndZp b1 := rfl
@[simp] theorem decodeOpcode_sbcZpX : decodeOpcode 0xF5 b1 b2 = .sbcZpX b1 := rfl
@[simp] theorem decodeOpcode_sbcAbsY : decodeOpcode 0xF9 b1 b2 = .sbcAbsY (wordOf b2 b1) := rfl
@[simp] theorem decodeOpcode_sbcAbsX : decodeOpcode 0xFD b1 b2 = .sbcAbsX (wordOf b2 b1) := rfl
@[simp] theorem decodeOpcode_cmpIndX : decodeOpcode 0xC1 b1 b2 = .cmpIndX b1 := rfl
@[simp] theorem decodeOpcode_cmpZp : decodeOpcode 0xC5 b1 b2 = .cmpZp b1 := rfl
@[simp] theorem decodeOpcode_cmpImm : decodeOpcode 0xC9 b1 b2 = .cmpImm b1 := rfl
@[simp] theorem decodeOpcode_cmpAbs : decodeOpcode 0xCD b1 b2 = .cmpAbs (wordOf b2 b1) := rfl
@[simp] theorem decodeOpcode_cmpIndY : decodeOpcode 0xD1 b1 b2 = .cmpIndY b1 := rfl
@[simp] theorem decodeOpcode_cmpIndZp : decodeOpcode 0xD2 b1 b2 = .cmpIndZp b1 := rfl
@[simp] theorem decodeOpcode_cmpZpX : decodeOpcode 0xD5 b1 b2 = .cmpZpX b1 := rfl
@[simp] theorem decodeOpcode_cmpAbsY : decodeOpcode 0xD9 b1 b2 = .cmpAbsY (wordOf b2 b1) := rfl
@[simp] theorem decodeOpcode_cmpAbsX : decodeOpcode 0xDD b1 b2 = .cmpAbsX (wordOf b2 b1) := rfl
@[simp] theorem decodeOpcode_cpxImm : decodeOpcode 0xE0 b1 b2 = .cpxImm b1 := rfl
@[simp] theorem decodeOpcode_cpxZp : decodeOpcode 0xE4 b1 b2 = .cpxZp b1 := rfl
@[simp] theorem decodeOpcode_cpxAbs : decodeOpcode 0xEC b1 b2 = .cpxAbs (wordOf b2 b1) := rfl
@[simp] theorem decodeOpcode_cpyImm : decodeOpcode 0xC0 b1 b2 = .cpyImm b1 := rfl
@[simp] theorem decodeOpcode_cpyZp : decodeOpcode 0xC4 b1 b2 = .cpyZp b1 := rfl
@[simp] theorem decodeOpcode_cpyAbs : decodeOpcode 0xCC b1 b2 = .cpyAbs (wordOf b2 b1) := rfl
@[simp] theorem decodeOpcode_incZp : decodeOpcode 0xE6 b1 b2 = .incZp b1 := rfl
@[simp] theorem decodeOpcode_incAbs : decodeOpcode 0xEE b1 b2 = .incAbs (wordOf b2 b1) := rfl
@[simp] theorem decodeOpcode_incZpX : decodeOpcode 0xF6 b1 b2 = .incZpX b1 := rfl
@[simp] theorem decodeOpcode_incAbsX : decodeOpcode 0xFE b1 b2 = .incAbsX (wordOf b2 b1) := rfl
@[simp] theorem decodeOpcode_decZp : decodeOpcode 0xC6 b1 b2 = .decZp b1 := rfl
@[simp] theorem decodeOpcode_decAbs : decodeOpcode 0xCE b1 b2 = .decAbs (wordOf b2 b1) := rfl
@[simp] theorem decodeOpcode_decZpX : decodeOpcode 0xD6 b1 b2 = .decZpX b1 := rfl
@[simp] theorem decodeOpcode_decAbsX : decodeOpcode 0xDE b1 b2 = .decAbsX (wordOf b2 b1) := rfl
@[simp] theorem decodeOpcode_inx : decodeOpcode 0xE8 b1 b2 = .inx := rfl
@[simp] theorem decodeOpcode_iny : decodeOpcode 0xC8 b1 b2 = .iny := rfl
@[simp] theorem decodeOpcode_dex : decodeOpcode 0xCA b1 b2 = .dex := rfl
@[simp] theorem decodeOpcode_dey : decodeOpcode 0x88 b1 b2 = .dey := rfl
@[simp] theorem decodeOpcode_andIndX : decodeOpcode 0x21 b1 b2 = .andIndX b1 := rfl
@[simp] theorem decodeOpcode_andZp : decodeOpcode 0x25 b1 b2 = .andZp b1 := rfl
@[simp] theorem decodeOpcode_andImm : decodeOpcode 0x29 b1 b2 = .andImm b1 := rfl
@[simp] theorem decodeOpcode_andAbs : decodeOpcode 0x2D b1 b2 = .andAbs (wordOf b2 b1) := rfl
@[simp] theorem decodeOpcode_andIndY : decodeOpcode 0x31 b1 b2 = .andIndY b1 := rfl
@[simp] theorem decodeOpcode_andIndZp : decodeOpcode 0x32 b1 b2 = .andIndZp b1 := rfl
@[simp] theorem decodeOpcode_andZpX : decodeOpcode 0x35 b1 b2 = .andZpX b1 := rfl
@[simp] theorem decodeOpcode_andAbsY : decodeOpcode 0x39 b1 b2 = .andAbsY (wordOf b2 b1) := rfl
@[simp] theorem decodeOpcode_andAbsX : decodeOpcode 0x3D b1 b2 = .andAbsX (wordOf b2 b1) := rfl
@[simp] theorem decodeOpcode_oraIndX : decodeOpcode 0x01 b1 b2 = .oraIndX b1 := rfl
@[simp] theorem decodeOpcode_oraZp : decodeOpcode 0x05 b1 b2 = .oraZp b1 := rfl
@[simp] theorem decodeOpcode_oraImm : decodeOpcode 0x09 b1 b2 = .oraImm b1 := rfl
@[simp] theorem decodeOpcode_oraAbs : decodeOpcode 0x0D b1 b2 = .oraAbs (wordOf b2 b1) := rfl
@[simp] theorem decodeOpcode_oraIndY : decodeOpcode 0x11 b1 b2 = .oraIndY b1 := rfl
@[simp] theorem decodeOpcode_oraIndZp : decodeOpcode 0x12 b1 b2 = .oraIndZp b1 := rfl
@[simp] theorem decodeOpcode_oraZpX : decodeOpcode 0x15 b1 b2 = .oraZpX b1 := rfl
@[simp] theorem decodeOpcode_oraAbsY : decodeOpcode 0x19 b1 b2 = .oraAbsY (wordOf b2 b1) := rfl
@[simp] theorem decodeOpcode_oraAbsX : decodeOpcode 0x1D b1 b2 = .oraAbsX (wordOf b2 b1) := rfl
@[simp] theorem decodeOpcode_eorIndX : decodeOpcode 0x41 b1 b2 = .eorIndX b1 := rfl
@[simp] theorem decodeOpcode_eorZp : decodeOpcode 0x45 b1 b2 = .eorZp b1 := rfl
@[simp] theorem decodeOpcode_eorImm : decodeOpcode 0x49 b1 b2 = .eorImm b1 := rfl
@[simp] theorem decodeOpcode_eorAbs : decodeOpcode 0x4D b1 b2 = .eorAbs (wordOf b2 b1) := rfl
@[simp] theorem decodeOpcode_eorIndY : decodeOpcode 0x51 b1 b2 = .eorIndY b1 := rfl
@[simp] theorem decodeOpcode_eorIndZp : decodeOpcode 0x52 b1 b2 = .eorIndZp b1 := rfl
@[simp] theorem decodeOpcode_eorZpX : decodeOpcode 0x55 b1 b2 = .eorZpX b1 := rfl
@[simp] theorem decodeOpcode_eorAbsY : decodeOpcode 0x59 b1 b2 = .eorAbsY (wordOf b2 b1) := rfl
@[simp] theorem decodeOpcode_eorAbsX : decodeOpcode 0x5D b1 b2 = .eorAbsX (wordOf b2 b1) := rfl
@[simp] theorem decodeOpcode_bitZp : decodeOpcode 0x24 b1 b2 = .bitZp b1 := rfl
@[simp] theorem decodeOpcode_bitAbs : decodeOpcode 0x2C b1 b2 = .bitAbs (wordOf b2 b1) := rfl
@[simp] theorem decodeOpcode_aslZp : decodeOpcode 0x06 b1 b2 = .aslZp b1 := rfl
@[simp] theorem decodeOpcode_aslA : decodeOpcode 0x0A b1 b2 = .aslA := rfl
@[simp] theorem decodeOpcode_aslAbs : decodeOpcode 0x0E b1 b2 = .aslAbs (wordOf b2 b1) := rfl
@[simp] theorem decodeOpcode_aslZpX : decodeOpcode 0x16 b1 b2 = .aslZpX b1 := rfl
@[simp] theorem decodeOpcode_aslAbsX : decodeOpcode 0x1E b1 b2 = .aslAbsX (wordOf b2 b1) := rfl
@[simp] theorem decodeOpcode_lsrZp : decodeOpcode 0x46 b1 b2 = .lsrZp b1 := rfl
@[simp] theorem decodeOpcode_lsrA : decodeOpcode 0x4A b1 b2 = .lsrA := rfl
@[simp] theorem decodeOpcode_lsrAbs : decodeOpcode 0x4E b1 b2 = .lsrAbs (wordOf b2 b1) := rfl
@[simp] theorem decodeOpcode_lsrZpX : decodeOpcode 0x56 b1 b2 = .lsrZpX b1 := rfl
@[simp] theorem decodeOpcode_lsrAbsX : decodeOpcode 0x5E b1 b2 = .lsrAbsX (wordOf b2 b1) := rfl
@[simp] theorem decodeOpcode_rolZp : decodeOpcode 0x26 b1 b2 = .rolZp b1 := rfl
@[simp] theorem decodeOpcode_rolA : decodeOpcode 0x2A b1 b2 = .rolA := rfl
@[simp] theorem decodeOpcode_rolAbs : decodeOpcode 0x2E b1 b2 = .rolAbs (wordOf b2 b1) := rfl
@[simp] theorem decodeOpcode_rolZpX : decodeOpcode 0x36 b1 b2 = .rolZpX b1 := rfl
@[simp] theorem decodeOpcode_rolAbsX : decodeOpcode 0x3E b1 b2 = .rolAbsX (wordOf b2 b1) := rfl
@[simp] theorem decodeOpcode_rorZp : decodeOpcode 0x66 b1 b2 = .rorZp b1 := rfl
@[simp] theorem decodeOpcode_rorA : decodeOpcode 0x6A b1 b2 = .rorA := rfl
@[simp] theorem decodeOpcode_rorAbs : decodeOpcode 0x6E b1 b2 = .rorAbs (wordOf b2 b1) := rfl
@[simp] theorem decodeOpcode_rorZpX : decodeOpcode 0x76 b1 b2 = .rorZpX b1 := rfl
@[simp] theorem decodeOpcode_rorAbsX : decodeOpcode 0x7E b1 b2 = .rorAbsX (wordOf b2 b1) := rfl
@[simp] theorem decodeOpcode_tsbZp : decodeOpcode 0x04 b1 b2 = .tsbZp b1 := rfl
@[simp] theorem decodeOpcode_tsbAbs : decodeOpcode 0x0C b1 b2 = .tsbAbs (wordOf b2 b1) := rfl
@[simp] theorem decodeOpcode_trbZp : decodeOpcode 0x14 b1 b2 = .trbZp b1 := rfl
@[simp] theorem decodeOpcode_trbAbs : decodeOpcode 0x1C b1 b2 = .trbAbs (wordOf b2 b1) := rfl
@[simp] theorem decodeOpcode_bpl : decodeOpcode 0x10 b1 b2 = .bpl b1 := rfl
@[simp] theorem decodeOpcode_bmi : decodeOpcode 0x30 b1 b2 = .bmi b1 := rfl
@[simp] theorem decodeOpcode_bvc : decodeOpcode 0x50 b1 b2 = .bvc b1 := rfl
@[simp] theorem decodeOpcode_bvs : decodeOpcode 0x70 b1 b2 = .bvs b1 := rfl
@[simp] theorem decodeOpcode_bcc : decodeOpcode 0x90 b1 b2 = .bcc b1 := rfl
@[simp] theorem decodeOpcode_bcs : decodeOpcode 0xB0 b1 b2 = .bcs b1 := rfl
@[simp] theorem decodeOpcode_bne : decodeOpcode 0xD0 b1 b2 = .bne b1 := rfl
@[simp] theorem decodeOpcode_beq : decodeOpcode 0xF0 b1 b2 = .beq b1 := rfl
@[simp] theorem decodeOpcode_bra : decodeOpcode 0x80 b1 b2 = .bra b1 := rfl
@[simp] theorem decodeOpcode_jmpAbs : decodeOpcode 0x4C b1 b2 = .jmpAbs (wordOf b2 b1) := rfl
@[simp] theorem decodeOpcode_jmpInd : decodeOpcode 0x6C b1 b2 = .jmpInd (wordOf b2 b1) := rfl
@[simp] theorem decodeOpcode_jmpAbsIndX : decodeOpcode 0x7C b1 b2 = .jmpAbsIndX (wordOf b2 b1) := rfl
@[simp] theorem decodeOpcode_pha : decodeOpcode 0x48 b1 b2 = .pha := rfl
@[simp] theorem decodeOpcode_php : decodeOpcode 0x08 b1 b2 = .php := rfl
@[simp] theorem decodeOpcode_pla : decodeOpcode 0x68 b1 b2 = .pla := rfl
@[simp] theorem decodeOpcode_plp : decodeOpcode 0x28 b1 b2 = .plp := rfl
@[simp] theorem decodeOpcode_jsr : decodeOpcode 0x20 b1 b2 = .jsr (wordOf b2 b1) := rfl
@[simp] theorem decodeOpcode_rts : decodeOpcode 0x60 b1 b2 = .rts := rfl
@[simp] theorem decodeOpcode_clc : decodeOpcode 0x18 b1 b2 = .clc := rfl
@[simp] theorem decodeOpcode_sec : decodeOpcode 0x38 b1 b2 = .sec := rfl
@[simp] theorem decodeOpcode_cli : decodeOpcode 0x58 b1 b2 = .cli := rfl
@[simp] theorem decodeOpcode_sei : decodeOpcode 0x78 b1 b2 = .sei := rfl
@[simp] theorem decodeOpcode_cld : decodeOpcode 0xD8 b1 b2 = .cld := rfl
@[simp] theorem decodeOpcode_sed : decodeOpcode 0xF8 b1 b2 = .sed := rfl
@[simp] theorem decodeOpcode_clv : decodeOpcode 0xB8 b1 b2 = .clv := rfl
@[simp] theorem decodeOpcode_nop : decodeOpcode 0xEA b1 b2 = .nop := rfl
@[simp] theorem decodeOpcode_brk : decodeOpcode 0x00 b1 b2 = .brk := rfl
@[simp] theorem decodeOpcode_rti : decodeOpcode 0x40 b1 b2 = .rti := rfl
@[simp] theorem decodeOpcode_unsettledIncA : decodeOpcode 0x1A b1 b2 = .unsettledIncA := rfl
@[simp] theorem decodeOpcode_unsettledBitZpX : decodeOpcode 0x34 b1 b2 = .unsettledBitZpX b1 := rfl
@[simp] theorem decodeOpcode_unsettledDecA : decodeOpcode 0x3A b1 b2 = .unsettledDecA := rfl
@[simp] theorem decodeOpcode_unsettledBitAbsX : decodeOpcode 0x3C b1 b2 = .unsettledBitAbsX (wordOf b2 b1) := rfl
@[simp] theorem decodeOpcode_unsettledPhy : decodeOpcode 0x5A b1 b2 = .unsettledPhy := rfl
@[simp] theorem decodeOpcode_unsettledStzZp : decodeOpcode 0x64 b1 b2 = .unsettledStzZp b1 := rfl
@[simp] theorem decodeOpcode_unsettledStzZpX : decodeOpcode 0x74 b1 b2 = .unsettledStzZpX b1 := rfl
@[simp] theorem decodeOpcode_unsettledPly : decodeOpcode 0x7A b1 b2 = .unsettledPly := rfl
@[simp] theorem decodeOpcode_unsettledBitImm : decodeOpcode 0x89 b1 b2 = .unsettledBitImm b1 := rfl
@[simp] theorem decodeOpcode_unsettledStzAbs : decodeOpcode 0x9C b1 b2 = .unsettledStzAbs (wordOf b2 b1) := rfl
@[simp] theorem decodeOpcode_unsettledStzAbsX : decodeOpcode 0x9E b1 b2 = .unsettledStzAbsX (wordOf b2 b1) := rfl
@[simp] theorem decodeOpcode_unsettledPhx : decodeOpcode 0xDA b1 b2 = .unsettledPhx := rfl
@[simp] theorem decodeOpcode_unsettledPlx : decodeOpcode 0xFA b1 b2 = .unsettledPlx := rfl

/-- R108: each of the 78 illegal slots decodes to the illegal opcode. -/
theorem decodeOpcode_illegal : ∀ op ∈ illegalSlots, decodeOpcode op b1 b2 = .illegal op := by
  simp only [illegalSlots, List.cons_append, List.nil_append, List.forall_mem_cons]
  and_intros
  all_goals first | rfl | simp

/-! ### Words and their bytes -/

theorem wordOf_toNat (h l : Byte) : (wordOf h l).toNat = 256 * h.toNat + l.toNat := by
  have hh := h.isLt
  simp only [wordOf, BitVec.toNat_or, BitVec.toNat_shiftLeft, BitVec.toNat_setWidth, Nat.shiftLeft_eq]
  rw [Nat.mod_eq_of_lt (by omega : h.toNat < 2 ^ 16), Nat.mod_eq_of_lt (by omega : h.toNat * 2 ^ 8 < 2 ^ 16),
    Nat.mod_eq_of_lt (by omega : l.toNat < 2 ^ 16), Nat.mul_comm, ← Nat.two_pow_add_eq_or_of_lt l.isLt]

theorem lowByte_toNat (w : Word) : (lowByte w).toNat = w.toNat % 256 := by simp [lowByte]

theorem highByte_toNat (w : Word) : (highByte w).toNat = w.toNat / 256 := by
  have := w.isLt
  simp [highByte, Nat.shiftRight_eq_div_pow]
  omega

@[simp] theorem wordOf_bytes (w : Word) : wordOf (highByte w) (lowByte w) = w := by
  apply BitVec.eq_of_toNat_eq
  rw [wordOf_toNat, highByte_toNat, lowByte_toNat, Nat.div_add_mod]

@[simp] theorem lowByte_wordOf (h l : Byte) : lowByte (wordOf h l) = l := by
  have := l.isLt
  apply BitVec.eq_of_toNat_eq
  rw [lowByte_toNat, wordOf_toNat]
  omega

@[simp] theorem highByte_wordOf (h l : Byte) : highByte (wordOf h l) = h := by
  have := l.isLt
  apply BitVec.eq_of_toNat_eq
  rw [highByte_toNat, wordOf_toNat]
  omega

end Sys2Proof
end

