-- ==== Sys2Proof/Laws/Operands.lean ====
section
/-! SUPPORT. What the shared operations over the bus can do: the stack, 16-bit reads, the addressing modes, the access patterns,
and the fetch. Each keeps the invariant; the reading ones keep `ReadFrame`. -/

namespace Sys2Proof.Machine

variable (c : Params) (s : State)

/-! ### The invariant and the register updates -/

@[simp] theorem inv_setA (v : Byte) : (s.setA v).Inv ↔ s.Inv := Iff.rfl
@[simp] theorem inv_setX (v : Byte) : (s.setX v).Inv ↔ s.Inv := Iff.rfl
@[simp] theorem inv_setY (v : Byte) : (s.setY v).Inv ↔ s.Inv := Iff.rfl
@[simp] theorem inv_setSp (v : Byte) : (s.setSp v).Inv ↔ s.Inv := Iff.rfl
@[simp] theorem inv_setPc (v : Word) : (s.setPc v).Inv ↔ s.Inv := Iff.rfl
@[simp] theorem inv_setP (v : Flags) : (s.setP v).Inv ↔ s.Inv := Iff.rfl
@[simp] theorem inv_setNZ (v : Byte) : (s.setNZ v).Inv ↔ s.Inv := Iff.rfl
@[simp] theorem inv_halt : s.halt.Inv ↔ s.Inv := Iff.rfl
@[simp] theorem inv_useDraws (n : Nat) : (s.useDraws n).Inv ↔ s.Inv := Iff.rfl
@[simp] theorem inv_advance : s.advance.Inv ↔ s.Inv := Iff.rfl

/-! ### 16-bit reads and pointers -/

theorem read16_frame (a : Nat) : ReadFrame s (read16 c a s).2 := (busRead_frame a s).trans (busRead_frame _ _)
@[simp] theorem read16_pc (a : Nat) : (read16 c a s).2.pc = s.pc := by simp [read16]
theorem read16_inv {s : State} (h : s.Inv) (a : Nat) : (read16 c a s).2.Inv := busRead_inv (busRead_inv h _) _

theorem zpPointer_frame (p : Byte) : ReadFrame s (zpPointer c p s).2 := (busRead_frame _ s).trans (busRead_frame _ _)
@[simp] theorem zpPointer_pc (p : Byte) : (zpPointer c p s).2.pc = s.pc := by simp [zpPointer]
theorem zpPointer_inv {s : State} (h : s.Inv) (p : Byte) : (zpPointer c p s).2.Inv := busRead_inv (busRead_inv h _) _

/-! ### Addressing modes -/

/-- Resolving a data mode only reads. -/
theorem effAddr_frame (m : DataMode) : ReadFrame s (effAddr c m s).2 := by
  cases m <;> first | exact .refl s | exact zpPointer_frame c s _

@[simp] theorem effAddr_pc (m : DataMode) : (effAddr c m s).2.pc = s.pc := by
  cases m <;> simp [effAddr]

theorem effAddr_inv {s : State} (h : s.Inv) (m : DataMode) : (effAddr c m s).2.Inv := by
  cases m <;> first | exact h | exact zpPointer_inv c h _

@[simp] theorem effAddr_a (m : DataMode) : (effAddr c m s).2.a = s.a := (effAddr_frame c s m).a
@[simp] theorem effAddr_x (m : DataMode) : (effAddr c m s).2.x = s.x := (effAddr_frame c s m).x
@[simp] theorem effAddr_y (m : DataMode) : (effAddr c m s).2.y = s.y := (effAddr_frame c s m).y
@[simp] theorem effAddr_sp (m : DataMode) : (effAddr c m s).2.sp = s.sp := (effAddr_frame c s m).sp
@[simp] theorem effAddr_p (m : DataMode) : (effAddr c m s).2.p = s.p := (effAddr_frame c s m).p
@[simp] theorem effAddr_halted (m : DataMode) : (effAddr c m s).2.halted = s.halted := (effAddr_frame c s m).halted
@[simp] theorem effAddr_mem (m : DataMode) : (effAddr c m s).2.mem = s.mem := (effAddr_frame c s m).mem
@[simp] theorem effAddr_dspLatch (m : DataMode) : (effAddr c m s).2.dspLatch = s.dspLatch := (effAddr_frame c s m).dspLatch
@[simp] theorem effAddr_kq (m : DataMode) : (effAddr c m s).2.kq = s.kq := (effAddr_frame c s m).kq
@[simp] theorem effAddr_draws (m : DataMode) : (effAddr c m s).2.draws = s.draws := (effAddr_frame c s m).draws

/-- Loading an operand only reads. -/
theorem loadOperand_frame (o : ReadOperand) : ReadFrame s (loadOperand c o s).2 := by
  cases o with
  | imm v => exact .refl s
  | data m => exact (effAddr_frame c s m).trans (busRead_frame _ _)

@[simp] theorem loadOperand_pc (o : ReadOperand) : (loadOperand c o s).2.pc = s.pc := by
  cases o <;> simp [loadOperand]

theorem loadOperand_inv {s : State} (h : s.Inv) (o : ReadOperand) : (loadOperand c o s).2.Inv := by
  cases o with
  | imm v => exact h
  | data m => exact busRead_inv (effAddr_inv c h m) _

@[simp] theorem loadOperand_a (o : ReadOperand) : (loadOperand c o s).2.a = s.a := (loadOperand_frame c s o).a
@[simp] theorem loadOperand_x (o : ReadOperand) : (loadOperand c o s).2.x = s.x := (loadOperand_frame c s o).x
@[simp] theorem loadOperand_y (o : ReadOperand) : (loadOperand c o s).2.y = s.y := (loadOperand_frame c s o).y
@[simp] theorem loadOperand_sp (o : ReadOperand) : (loadOperand c o s).2.sp = s.sp := (loadOperand_frame c s o).sp
@[simp] theorem loadOperand_p (o : ReadOperand) : (loadOperand c o s).2.p = s.p := (loadOperand_frame c s o).p
@[simp] theorem loadOperand_halted (o : ReadOperand) : (loadOperand c o s).2.halted = s.halted := (loadOperand_frame c s o).halted
@[simp] theorem loadOperand_mem (o : ReadOperand) : (loadOperand c o s).2.mem = s.mem := (loadOperand_frame c s o).mem
@[simp] theorem loadOperand_dspLatch (o : ReadOperand) : (loadOperand c o s).2.dspLatch = s.dspLatch := (loadOperand_frame c s o).dspLatch
@[simp] theorem loadOperand_kq (o : ReadOperand) : (loadOperand c o s).2.kq = s.kq := (loadOperand_frame c s o).kq
@[simp] theorem loadOperand_draws (o : ReadOperand) : (loadOperand c o s).2.draws = s.draws := (loadOperand_frame c s o).draws

/-! ### Storing and modifying -/

theorem store_inv {s : State} (h : s.Inv) (m : DataMode) (v : Byte) : (store c m v s).Inv :=
  busWrite_inv (effAddr_inv c h m) c _ v

theorem modify_inv {s : State} (h : s.Inv) (m : DataMode) (f : Byte → Flags → Byte × Flags) : (modify c m f s).Inv :=
  (inv_setP _ _).mpr (busWrite_inv (busRead_inv (effAddr_inv c h m) _) c _ _)

/-! ### The stack -/

theorem isRam_stackAddr (sp : Byte) : isRam (stackAddr sp) = true := by
  have := sp.isLt
  have hw : inWindow (stackAddr sp) = false := by
    have : ¬ 0xD000 ≤ stackAddr sp := by unfold stackAddr; omega
    simp [inWindow, this]
  have : stackAddr sp ≤ 0xFFFF := by unfold stackAddr; omega
  simp [isRam, hw, this]

theorem one_lt_stackAddr (sp : Byte) : 1 < stackAddr sp := by unfold stackAddr; omega

/-- Two stack slots are the same address only for the same SP. -/
theorem stackAddr_inj {p q : Byte} : stackAddr p = stackAddr q ↔ p = q := by
  simp [stackAddr, BitVec.toNat_inj]

/-- R250 in plain terms: the stack page is RAM that warns of nothing, so a push writes a byte and moves SP. -/
theorem push_eq (v : Byte) : push c v s = (s.setMem (s.mem.write (stackAddr s.sp) v)).setSp (s.sp - 1) := by
  rw [push, busWrite_ram (isRam_stackAddr _) (one_lt_stackAddr _)]

/-- R251 in plain terms. -/
theorem pop_eq : pop s = (s.mem.read (stackAddr (s.sp + 1)), s.setSp (s.sp + 1)) := by
  rw [pop, busRead_ram (isRam_stackAddr _) (one_lt_stackAddr _)]
  rfl

/-- R252 in plain terms: the high byte at the higher address. -/
theorem push16_eq (w : Word) : push16 c w s =
    (s.setMem ((s.mem.write (stackAddr s.sp) (highByte w)).write (stackAddr (s.sp - 1)) (lowByte w))).setSp (s.sp - 1 - 1) := by
  simp only [push16, push_eq]
  rfl

/-- R253 in plain terms. -/
theorem pop16_eq : pop16 s =
    (wordOf (s.mem.read (stackAddr (s.sp + 1 + 1))) (s.mem.read (stackAddr (s.sp + 1))), s.setSp (s.sp + 1 + 1)) := by
  simp only [pop16, pop_eq]
  rfl

/-- The vector's two bytes are RAM, so reading it changes nothing. -/
theorem read16_vector : read16 c 0xFFFE s = (wordOf (s.mem.read 0xFFFF) (s.mem.read 0xFFFE), s) := by
  have hlo : isRam 0xFFFE = true := by decide
  have hhi : isRam 0xFFFF = true := by decide
  simp [read16, busRead_ram hlo, overflowAddr, busRead_ram hhi]

/-- R322 in plain terms: three bytes on the stack, I set, PC from the vector. -/
theorem enterInterrupt_eq (ret : Word) (b : Bool) : enterInterrupt c ret b s =
    let t := push c (s.p.pack b) (push16 c ret s)
    (t.setP { s.p with i := true }).setPc (wordOf (t.mem.read 0xFFFF) (t.mem.read 0xFFFE)) := by
  simp only [enterInterrupt, read16_vector, push16_eq, push_eq]
  rfl

theorem push_inv {s : State} (h : s.Inv) (v : Byte) : (push c v s).Inv := by
  rw [push_eq]
  exact ⟨Memory.wf_write h.1 (isRam_stackAddr _) v, h.2⟩

theorem pop_inv {s : State} (h : s.Inv) : (pop s).2.Inv := by rw [pop_eq]; exact h

theorem push16_inv {s : State} (h : s.Inv) (w : Word) : (push16 c w s).Inv := push_inv c (push_inv c h _) _
theorem pop16_inv {s : State} (h : s.Inv) : (pop16 s).2.Inv := pop_inv (pop_inv h)

theorem enterInterrupt_inv {s : State} (h : s.Inv) (ret : Word) (b : Bool) : (enterInterrupt c ret b s).Inv :=
  (inv_setPc _ _).mpr (read16_inv c ((inv_setP _ _).mpr (push_inv c (push16_inv c h ret) _)) _)

theorem returnFromInterrupt_inv {s : State} (h : s.Inv) : (returnFromInterrupt s).Inv :=
  (inv_setPc _ _).mpr (pop16_inv ((inv_setP _ _).mpr (pop_inv h)))

/-! ### The fetch -/

theorem fetchByte_frame : ReadFrame s (fetchByte s).2 := (busRead_frame _ s).trans (.setPc _ _)
theorem fetchByte_inv {s : State} (h : s.Inv) : (fetchByte s).2.Inv := (inv_advance _).mpr (busRead_inv h _)

theorem fetchOperands_frame (n : Option Nat) : ReadFrame s (fetchOperands n s).state := by
  rcases n with _ | _ | _ | n
  · exact .refl s
  · exact .setPc s _
  · exact (ReadFrame.setPc s _).trans (fetchByte_frame _)
  · exact ((ReadFrame.setPc s _).trans (fetchByte_frame _)).trans (fetchByte_frame _)

theorem fetchOperands_inv {s : State} (h : s.Inv) (n : Option Nat) : (fetchOperands n s).state.Inv := by
  have ha : s.advance.Inv := (inv_advance s).mpr h
  rcases n with _ | _ | _ | n
  · exact h
  · exact ha
  · exact fetchByte_inv ha
  · exact fetchByte_inv (fetchByte_inv ha)

/-- Fetching an instruction only reads. -/
theorem fetchInstr_frame : ReadFrame s (fetchInstr c s).2 := (busRead_frame _ s).trans (fetchOperands_frame _ _)
theorem fetchInstr_inv {s : State} (h : s.Inv) : (fetchInstr c s).2.Inv := fetchOperands_inv (busRead_inv h _) _

end Sys2Proof.Machine
end

