-- ==== Sys2Proof/Laws/Exec.lean ====
section
/-! SUPPORT. The dispatch by shape: `exec` of an instruction answers a next state that depends on its operation and its operand in
one of nineteen ways. A proof about every instruction takes the cases of `Effect` and not those of `Instr`. -/

namespace Sys2Proof.Machine

/-- The operations that read one operand byte (R138). -/
def readMeaning : Op → Option (Params → ReadOperand → State → State)
  | .lda => some lda
  | .ldx => some ldx
  | .ldy => some ldy
  | .adc => some adc
  | .sbc => some sbc
  | .cmp => some compareA
  | .cpx => some compareX
  | .cpy => some compareY
  | .and => some andA
  | .ora => some oraA
  | .eor => some eorA
  | .bit => some bitA
  | _ => none

/-- The stores and their register (R139). -/
def storedRegister : Op → Option (State → Byte)
  | .sta => some State.a
  | .stx => some State.x
  | .sty => some State.y
  | _ => none

/-- The read-modify-writes (R140), as functions of A, the byte and the flags. -/
def modifier : Op → Option (Byte → Byte → Flags → Byte × Flags)
  | .inc => some fun _ => incByte
  | .dec => some fun _ => decByte
  | .asl => some fun _ => aslByte
  | .lsr => some fun _ => lsrByte
  | .rol => some fun _ => rolByte
  | .ror => some fun _ => rorByte
  | .tsb => some tsbByte
  | .trb => some trbByte
  | _ => none

/-- The operations of mode Implied that touch registers and flags alone. -/
def registerMeaning : Op → Option (State → State)
  | .tax => some fun s => (s.setX s.a).setNZ s.a
  | .tay => some fun s => (s.setY s.a).setNZ s.a
  | .txa => some fun s => (s.setA s.x).setNZ s.x
  | .tya => some fun s => (s.setA s.y).setNZ s.y
  | .tsx => some fun s => (s.setX s.sp).setNZ s.sp
  | .txs => some fun s => s.setSp s.x
  | .inx => some fun s => (s.setX (s.x + 1)).setNZ (s.x + 1)
  | .iny => some fun s => (s.setY (s.y + 1)).setNZ (s.y + 1)
  | .dex => some fun s => (s.setX (s.x - 1)).setNZ (s.x - 1)
  | .dey => some fun s => (s.setY (s.y - 1)).setNZ (s.y - 1)
  | .clc => some fun s => s.setP { s.p with c := false }
  | .sec => some fun s => s.setP { s.p with c := true }
  | .cli => some fun s => s.setP { s.p with i := false }
  | .sei => some fun s => s.setP { s.p with i := true }
  | .cld => some fun s => s.setP { s.p with d := false }
  | .sed => some fun s => s.setP { s.p with d := true }
  | .clv => some fun s => s.setP { s.p with v := false }
  | .nop => some id
  | _ => none

/-- The documented bodies of the unsettled slots (R291) by operand. -/
inductive SlotBody : Operand → (State → State) → Prop
  | incA : SlotBody .acc (modifyA incByte)
  | decA : SlotBody .acc (modifyA decByte)
  | phx : SlotBody .implied fun t => push Config.params t.x t
  | phy : SlotBody .implied fun t => push Config.params t.y t
  | plx : SlotBody .implied pullX
  | ply : SlotBody .implied pullY
  | stz (m : DataMode) : SlotBody (.data m) (store Config.params m 0)
  | bit (m : DataMode) : SlotBody (.data m) (bitA Config.params (.data m))
  | bitImm (v : Byte) : SlotBody (.imm v) (bitImmA v)

/-- The operand that a read operand came from. -/
def asOperand : ReadOperand → Operand
  | .imm v => .imm v
  | .data m => .data m

/-- What an operation with an operand makes of the state `s`. -/
inductive Effect (s : State) : Op → Operand → State → Prop
  | read {f} (op : Op) (o : ReadOperand) : readMeaning op = some f →
      Effect s op (asOperand o) (f Config.params o s)
  | store {r t} (op : Op) (m : DataMode) : storedRegister op = some r → t = store Config.params m (r s) s → Effect s op (.data m) t
  | modify {f t} (op : Op) (m : DataMode) : modifier op = some f → t = modify Config.params m (f s.a) s → Effect s op (.data m) t
  | modifyA {f t} (op : Op) : op ∈ [.asl, .lsr, .rol, .ror] → modifier op = some f → t = modifyA (f s.a) s → Effect s op .acc t
  | register {f t} (op : Op) : registerMeaning op = some f → t = f s → Effect s op .implied t
  | branch (op : Op) (d : Byte) : op ∈ [.bpl, .bmi, .bvc, .bvs, .bcc, .bcs, .bne, .beq, .bra] →
      Effect s op (.rel d) (branch (branchTaken op s.p) d s)
  | jmpAbs (w : Word) : Effect s .jmp (.data (.abs w)) (s.setPc w)
  | jmpInd (w : Word) : Effect s .jmp (.ind w) (jumpThrough Config.params w.toNat s)
  | jmpAbsIndX (w : Word) : Effect s .jmp (.absIndX w)
      (jumpThrough Config.params (overflowAddr Config.params (w.toNat + s.x.toNat)) s)
  | pha : Effect s .pha .implied (push Config.params s.a s)
  | php : Effect s .php .implied (push Config.params (s.p.pack true) s)
  | pla : Effect s .pla .implied (pullA s)
  | plp : Effect s .plp .implied (pullP s)
  | jsr (w : Word) : Effect s .jsr (.data (.abs w)) (jumpSubroutine Config.params w s)
  | rts : Effect s .rts .implied (returnSubroutine s)
  | brk : Effect s .brk .implied (enterInterrupt Config.params (s.pc + 1) true s)
  | rti : Effect s .rti .implied (returnFromInterrupt s)
  | illegal : Effect s .illegal .implied s.halt
  | unsettled {f} {o : Operand} : SlotBody o f → Effect s .unsettled o (unsettledSlot Config.params f s)

/-- `exec` answers a next state, and it is what `Effect` says. -/
theorem exec_effect (i : Instr) (s : State) : ∃ t, exec i s = .next t ∧ Effect s i.op i.operand t := by
  cases i with
  | ldaIndX b => exact ⟨_, rfl, .read _ (.data (.indX b)) rfl⟩
  | ldaZp b => exact ⟨_, rfl, .read _ (.data (.zp b)) rfl⟩
  | ldaImm v => exact ⟨_, rfl, .read _ (.imm v) rfl⟩
  | ldaAbs w => exact ⟨_, rfl, .read _ (.data (.abs w)) rfl⟩
  | ldaIndY b => exact ⟨_, rfl, .read _ (.data (.indY b)) rfl⟩
  | ldaIndZp b => exact ⟨_, rfl, .read _ (.data (.indZp b)) rfl⟩
  | ldaZpX b => exact ⟨_, rfl, .read _ (.data (.zpX b)) rfl⟩
  | ldaAbsY w => exact ⟨_, rfl, .read _ (.data (.absY w)) rfl⟩
  | ldaAbsX w => exact ⟨_, rfl, .read _ (.data (.absX w)) rfl⟩
  | ldxImm v => exact ⟨_, rfl, .read _ (.imm v) rfl⟩
  | ldxZp b => exact ⟨_, rfl, .read _ (.data (.zp b)) rfl⟩
  | ldxAbs w => exact ⟨_, rfl, .read _ (.data (.abs w)) rfl⟩
  | ldxZpY b => exact ⟨_, rfl, .read _ (.data (.zpY b)) rfl⟩
  | ldxAbsY w => exact ⟨_, rfl, .read _ (.data (.absY w)) rfl⟩
  | ldyImm v => exact ⟨_, rfl, .read _ (.imm v) rfl⟩
  | ldyZp b => exact ⟨_, rfl, .read _ (.data (.zp b)) rfl⟩
  | ldyAbs w => exact ⟨_, rfl, .read _ (.data (.abs w)) rfl⟩
  | ldyZpX b => exact ⟨_, rfl, .read _ (.data (.zpX b)) rfl⟩
  | ldyAbsX w => exact ⟨_, rfl, .read _ (.data (.absX w)) rfl⟩
  | staIndX _ => exact ⟨_, rfl, .store _ _ rfl rfl⟩
  | staZp _ => exact ⟨_, rfl, .store _ _ rfl rfl⟩
  | staAbs _ => exact ⟨_, rfl, .store _ _ rfl rfl⟩
  | staIndY _ => exact ⟨_, rfl, .store _ _ rfl rfl⟩
  | staIndZp _ => exact ⟨_, rfl, .store _ _ rfl rfl⟩
  | staZpX _ => exact ⟨_, rfl, .store _ _ rfl rfl⟩
  | staAbsY _ => exact ⟨_, rfl, .store _ _ rfl rfl⟩
  | staAbsX _ => exact ⟨_, rfl, .store _ _ rfl rfl⟩
  | stxZp _ => exact ⟨_, rfl, .store _ _ rfl rfl⟩
  | stxAbs _ => exact ⟨_, rfl, .store _ _ rfl rfl⟩
  | stxZpY _ => exact ⟨_, rfl, .store _ _ rfl rfl⟩
  | styZp _ => exact ⟨_, rfl, .store _ _ rfl rfl⟩
  | styAbs _ => exact ⟨_, rfl, .store _ _ rfl rfl⟩
  | styZpX _ => exact ⟨_, rfl, .store _ _ rfl rfl⟩
  | tax => exact ⟨_, rfl, .register _ rfl rfl⟩
  | tay => exact ⟨_, rfl, .register _ rfl rfl⟩
  | txa => exact ⟨_, rfl, .register _ rfl rfl⟩
  | tya => exact ⟨_, rfl, .register _ rfl rfl⟩
  | tsx => exact ⟨_, rfl, .register _ rfl rfl⟩
  | txs => exact ⟨_, rfl, .register _ rfl rfl⟩
  | adcIndX b => exact ⟨_, rfl, .read _ (.data (.indX b)) rfl⟩
  | adcZp b => exact ⟨_, rfl, .read _ (.data (.zp b)) rfl⟩
  | adcImm v => exact ⟨_, rfl, .read _ (.imm v) rfl⟩
  | adcAbs w => exact ⟨_, rfl, .read _ (.data (.abs w)) rfl⟩
  | adcIndY b => exact ⟨_, rfl, .read _ (.data (.indY b)) rfl⟩
  | adcIndZp b => exact ⟨_, rfl, .read _ (.data (.indZp b)) rfl⟩
  | adcZpX b => exact ⟨_, rfl, .read _ (.data (.zpX b)) rfl⟩
  | adcAbsY w => exact ⟨_, rfl, .read _ (.data (.absY w)) rfl⟩
  | adcAbsX w => exact ⟨_, rfl, .read _ (.data (.absX w)) rfl⟩
  | sbcIndX b => exact ⟨_, rfl, .read _ (.data (.indX b)) rfl⟩
  | sbcZp b => exact ⟨_, rfl, .read _ (.data (.zp b)) rfl⟩
  | sbcImm v => exact ⟨_, rfl, .read _ (.imm v) rfl⟩
  | sbcAbs w => exact ⟨_, rfl, .read _ (.data (.abs w)) rfl⟩
  | sbcIndY b => exact ⟨_, rfl, .read _ (.data (.indY b)) rfl⟩
  | sbcIndZp b => exact ⟨_, rfl, .read _ (.data (.indZp b)) rfl⟩
  | sbcZpX b => exact ⟨_, rfl, .read _ (.data (.zpX b)) rfl⟩
  | sbcAbsY w => exact ⟨_, rfl, .read _ (.data (.absY w)) rfl⟩
  | sbcAbsX w => exact ⟨_, rfl, .read _ (.data (.absX w)) rfl⟩
  | cmpIndX b => exact ⟨_, rfl, .read _ (.data (.indX b)) rfl⟩
  | cmpZp b => exact ⟨_, rfl, .read _ (.data (.zp b)) rfl⟩
  | cmpImm v => exact ⟨_, rfl, .read _ (.imm v) rfl⟩
  | cmpAbs w => exact ⟨_, rfl, .read _ (.data (.abs w)) rfl⟩
  | cmpIndY b => exact ⟨_, rfl, .read _ (.data (.indY b)) rfl⟩
  | cmpIndZp b => exact ⟨_, rfl, .read _ (.data (.indZp b)) rfl⟩
  | cmpZpX b => exact ⟨_, rfl, .read _ (.data (.zpX b)) rfl⟩
  | cmpAbsY w => exact ⟨_, rfl, .read _ (.data (.absY w)) rfl⟩
  | cmpAbsX w => exact ⟨_, rfl, .read _ (.data (.absX w)) rfl⟩
  | cpxImm v => exact ⟨_, rfl, .read _ (.imm v) rfl⟩
  | cpxZp b => exact ⟨_, rfl, .read _ (.data (.zp b)) rfl⟩
  | cpxAbs w => exact ⟨_, rfl, .read _ (.data (.abs w)) rfl⟩
  | cpyImm v => exact ⟨_, rfl, .read _ (.imm v) rfl⟩
  | cpyZp b => exact ⟨_, rfl, .read _ (.data (.zp b)) rfl⟩
  | cpyAbs w => exact ⟨_, rfl, .read _ (.data (.abs w)) rfl⟩
  | incZp _ => exact ⟨_, rfl, .modify _ _ rfl rfl⟩
  | incAbs _ => exact ⟨_, rfl, .modify _ _ rfl rfl⟩
  | incZpX _ => exact ⟨_, rfl, .modify _ _ rfl rfl⟩
  | incAbsX _ => exact ⟨_, rfl, .modify _ _ rfl rfl⟩
  | decZp _ => exact ⟨_, rfl, .modify _ _ rfl rfl⟩
  | decAbs _ => exact ⟨_, rfl, .modify _ _ rfl rfl⟩
  | decZpX _ => exact ⟨_, rfl, .modify _ _ rfl rfl⟩
  | decAbsX _ => exact ⟨_, rfl, .modify _ _ rfl rfl⟩
  | inx => exact ⟨_, rfl, .register _ rfl rfl⟩
  | iny => exact ⟨_, rfl, .register _ rfl rfl⟩
  | dex => exact ⟨_, rfl, .register _ rfl rfl⟩
  | dey => exact ⟨_, rfl, .register _ rfl rfl⟩
  | andIndX b => exact ⟨_, rfl, .read _ (.data (.indX b)) rfl⟩
  | andZp b => exact ⟨_, rfl, .read _ (.data (.zp b)) rfl⟩
  | andImm v => exact ⟨_, rfl, .read _ (.imm v) rfl⟩
  | andAbs w => exact ⟨_, rfl, .read _ (.data (.abs w)) rfl⟩
  | andIndY b => exact ⟨_, rfl, .read _ (.data (.indY b)) rfl⟩
  | andIndZp b => exact ⟨_, rfl, .read _ (.data (.indZp b)) rfl⟩
  | andZpX b => exact ⟨_, rfl, .read _ (.data (.zpX b)) rfl⟩
  | andAbsY w => exact ⟨_, rfl, .read _ (.data (.absY w)) rfl⟩
  | andAbsX w => exact ⟨_, rfl, .read _ (.data (.absX w)) rfl⟩
  | oraIndX b => exact ⟨_, rfl, .read _ (.data (.indX b)) rfl⟩
  | oraZp b => exact ⟨_, rfl, .read _ (.data (.zp b)) rfl⟩
  | oraImm v => exact ⟨_, rfl, .read _ (.imm v) rfl⟩
  | oraAbs w => exact ⟨_, rfl, .read _ (.data (.abs w)) rfl⟩
  | oraIndY b => exact ⟨_, rfl, .read _ (.data (.indY b)) rfl⟩
  | oraIndZp b => exact ⟨_, rfl, .read _ (.data (.indZp b)) rfl⟩
  | oraZpX b => exact ⟨_, rfl, .read _ (.data (.zpX b)) rfl⟩
  | oraAbsY w => exact ⟨_, rfl, .read _ (.data (.absY w)) rfl⟩
  | oraAbsX w => exact ⟨_, rfl, .read _ (.data (.absX w)) rfl⟩
  | eorIndX b => exact ⟨_, rfl, .read _ (.data (.indX b)) rfl⟩
  | eorZp b => exact ⟨_, rfl, .read _ (.data (.zp b)) rfl⟩
  | eorImm v => exact ⟨_, rfl, .read _ (.imm v) rfl⟩
  | eorAbs w => exact ⟨_, rfl, .read _ (.data (.abs w)) rfl⟩
  | eorIndY b => exact ⟨_, rfl, .read _ (.data (.indY b)) rfl⟩
  | eorIndZp b => exact ⟨_, rfl, .read _ (.data (.indZp b)) rfl⟩
  | eorZpX b => exact ⟨_, rfl, .read _ (.data (.zpX b)) rfl⟩
  | eorAbsY w => exact ⟨_, rfl, .read _ (.data (.absY w)) rfl⟩
  | eorAbsX w => exact ⟨_, rfl, .read _ (.data (.absX w)) rfl⟩
  | bitZp b => exact ⟨_, rfl, .read _ (.data (.zp b)) rfl⟩
  | bitAbs w => exact ⟨_, rfl, .read _ (.data (.abs w)) rfl⟩
  | aslZp _ => exact ⟨_, rfl, .modify _ _ rfl rfl⟩
  | aslA => exact ⟨_, rfl, .modifyA _ (by decide) rfl rfl⟩
  | aslAbs _ => exact ⟨_, rfl, .modify _ _ rfl rfl⟩
  | aslZpX _ => exact ⟨_, rfl, .modify _ _ rfl rfl⟩
  | aslAbsX _ => exact ⟨_, rfl, .modify _ _ rfl rfl⟩
  | lsrZp _ => exact ⟨_, rfl, .modify _ _ rfl rfl⟩
  | lsrA => exact ⟨_, rfl, .modifyA _ (by decide) rfl rfl⟩
  | lsrAbs _ => exact ⟨_, rfl, .modify _ _ rfl rfl⟩
  | lsrZpX _ => exact ⟨_, rfl, .modify _ _ rfl rfl⟩
  | lsrAbsX _ => exact ⟨_, rfl, .modify _ _ rfl rfl⟩
  | rolZp _ => exact ⟨_, rfl, .modify _ _ rfl rfl⟩
  | rolA => exact ⟨_, rfl, .modifyA _ (by decide) rfl rfl⟩
  | rolAbs _ => exact ⟨_, rfl, .modify _ _ rfl rfl⟩
  | rolZpX _ => exact ⟨_, rfl, .modify _ _ rfl rfl⟩
  | rolAbsX _ => exact ⟨_, rfl, .modify _ _ rfl rfl⟩
  | rorZp _ => exact ⟨_, rfl, .modify _ _ rfl rfl⟩
  | rorA => exact ⟨_, rfl, .modifyA _ (by decide) rfl rfl⟩
  | rorAbs _ => exact ⟨_, rfl, .modify _ _ rfl rfl⟩
  | rorZpX _ => exact ⟨_, rfl, .modify _ _ rfl rfl⟩
  | rorAbsX _ => exact ⟨_, rfl, .modify _ _ rfl rfl⟩
  | tsbZp _ => exact ⟨_, rfl, .modify _ _ rfl rfl⟩
  | tsbAbs _ => exact ⟨_, rfl, .modify _ _ rfl rfl⟩
  | trbZp _ => exact ⟨_, rfl, .modify _ _ rfl rfl⟩
  | trbAbs _ => exact ⟨_, rfl, .modify _ _ rfl rfl⟩
  | bpl _ => exact ⟨_, rfl, .branch .bpl _ (by decide)⟩
  | bmi _ => exact ⟨_, rfl, .branch .bmi _ (by decide)⟩
  | bvc _ => exact ⟨_, rfl, .branch .bvc _ (by decide)⟩
  | bvs _ => exact ⟨_, rfl, .branch .bvs _ (by decide)⟩
  | bcc _ => exact ⟨_, rfl, .branch .bcc _ (by decide)⟩
  | bcs _ => exact ⟨_, rfl, .branch .bcs _ (by decide)⟩
  | bne _ => exact ⟨_, rfl, .branch .bne _ (by decide)⟩
  | beq _ => exact ⟨_, rfl, .branch .beq _ (by decide)⟩
  | bra _ => exact ⟨_, rfl, .branch .bra _ (by decide)⟩
  | jmpAbs _ => exact ⟨_, rfl, .jmpAbs _⟩
  | jmpInd _ => exact ⟨_, rfl, .jmpInd _⟩
  | jmpAbsIndX _ => exact ⟨_, rfl, .jmpAbsIndX _⟩
  | pha => exact ⟨_, rfl, .pha⟩
  | php => exact ⟨_, rfl, .php⟩
  | pla => exact ⟨_, rfl, .pla⟩
  | plp => exact ⟨_, rfl, .plp⟩
  | jsr _ => exact ⟨_, rfl, .jsr _⟩
  | rts => exact ⟨_, rfl, .rts⟩
  | clc => exact ⟨_, rfl, .register _ rfl rfl⟩
  | sec => exact ⟨_, rfl, .register _ rfl rfl⟩
  | cli => exact ⟨_, rfl, .register _ rfl rfl⟩
  | sei => exact ⟨_, rfl, .register _ rfl rfl⟩
  | cld => exact ⟨_, rfl, .register _ rfl rfl⟩
  | sed => exact ⟨_, rfl, .register _ rfl rfl⟩
  | clv => exact ⟨_, rfl, .register _ rfl rfl⟩
  | nop => exact ⟨_, rfl, .register _ rfl rfl⟩
  | brk => exact ⟨_, rfl, .brk⟩
  | rti => exact ⟨_, rfl, .rti⟩
  | unsettledIncA => exact ⟨_, rfl, .unsettled .incA⟩
  | unsettledBitZpX _ => exact ⟨_, rfl, .unsettled (.bit _)⟩
  | unsettledDecA => exact ⟨_, rfl, .unsettled .decA⟩
  | unsettledBitAbsX _ => exact ⟨_, rfl, .unsettled (.bit _)⟩
  | unsettledPhy => exact ⟨_, rfl, .unsettled .phy⟩
  | unsettledStzZp _ => exact ⟨_, rfl, .unsettled (.stz _)⟩
  | unsettledStzZpX _ => exact ⟨_, rfl, .unsettled (.stz _)⟩
  | unsettledPly => exact ⟨_, rfl, .unsettled .ply⟩
  | unsettledBitImm _ => exact ⟨_, rfl, .unsettled (.bitImm _)⟩
  | unsettledStzAbs _ => exact ⟨_, rfl, .unsettled (.stz _)⟩
  | unsettledStzAbsX _ => exact ⟨_, rfl, .unsettled (.stz _)⟩
  | unsettledPhx => exact ⟨_, rfl, .unsettled .phx⟩
  | unsettledPlx => exact ⟨_, rfl, .unsettled .plx⟩
  | illegal _ => exact ⟨_, rfl, .illegal⟩

/-- The same of a given next state. -/
theorem effect_of_exec {i : Instr} {s t : State} (h : exec i s = .next t) : Effect s i.op i.operand t := by
  obtain ⟨u, hu, he⟩ := exec_effect i s
  rw [h] at hu
  cases hu
  exact he

end Sys2Proof.Machine
end

