-- ==== Sys2Proof/Laws/PerInstr.lean ====
section
/-! SUPPORT. Statements made per instruction. Family EncodedForm: the encoded instruction has the length that the decoder
expects of its opcode byte, and that byte decodes to an instruction of the same operation. -/

namespace Sys2Proof.Laws.EncodedForm

/-- R100, R105, R110. -/
def Statement (i : Instr) : Prop :=
  i.wf = true → (encode i).length = 1 + operandCount i.opcode ∧ (decodeOpcode i.opcode 0 0).op = i.op

/-- The form of an instruction, from the instruction that its opcode byte decodes to. -/
theorem of_decode {i j : Instr} (h : decodeOpcode i.opcode 0 0 = j)
    (hn : i.operand.bytes.length = j.operand.bytes.length) (ho : j.op = i.op) : Statement i := fun _ => by
  subst h
  exact ⟨by simp [encode, operandCount, hn, Nat.add_comm], ho⟩

theorem ldaIndX (b : Byte) : Statement (.ldaIndX b) := of_decode (decodeOpcode_ldaIndX 0 0) rfl rfl
theorem ldaZp (b : Byte) : Statement (.ldaZp b) := of_decode (decodeOpcode_ldaZp 0 0) rfl rfl
theorem ldaImm (v : Byte) : Statement (.ldaImm v) := of_decode (decodeOpcode_ldaImm 0 0) rfl rfl
theorem ldaAbs (w : Word) : Statement (.ldaAbs w) := of_decode (decodeOpcode_ldaAbs 0 0) rfl rfl
theorem ldaIndY (b : Byte) : Statement (.ldaIndY b) := of_decode (decodeOpcode_ldaIndY 0 0) rfl rfl
theorem ldaIndZp (b : Byte) : Statement (.ldaIndZp b) := of_decode (decodeOpcode_ldaIndZp 0 0) rfl rfl
theorem ldaZpX (b : Byte) : Statement (.ldaZpX b) := of_decode (decodeOpcode_ldaZpX 0 0) rfl rfl
theorem ldaAbsY (w : Word) : Statement (.ldaAbsY w) := of_decode (decodeOpcode_ldaAbsY 0 0) rfl rfl
theorem ldaAbsX (w : Word) : Statement (.ldaAbsX w) := of_decode (decodeOpcode_ldaAbsX 0 0) rfl rfl
theorem ldxImm (v : Byte) : Statement (.ldxImm v) := of_decode (decodeOpcode_ldxImm 0 0) rfl rfl
theorem ldxZp (b : Byte) : Statement (.ldxZp b) := of_decode (decodeOpcode_ldxZp 0 0) rfl rfl
theorem ldxAbs (w : Word) : Statement (.ldxAbs w) := of_decode (decodeOpcode_ldxAbs 0 0) rfl rfl
theorem ldxZpY (b : Byte) : Statement (.ldxZpY b) := of_decode (decodeOpcode_ldxZpY 0 0) rfl rfl
theorem ldxAbsY (w : Word) : Statement (.ldxAbsY w) := of_decode (decodeOpcode_ldxAbsY 0 0) rfl rfl
theorem ldyImm (v : Byte) : Statement (.ldyImm v) := of_decode (decodeOpcode_ldyImm 0 0) rfl rfl
theorem ldyZp (b : Byte) : Statement (.ldyZp b) := of_decode (decodeOpcode_ldyZp 0 0) rfl rfl
theorem ldyAbs (w : Word) : Statement (.ldyAbs w) := of_decode (decodeOpcode_ldyAbs 0 0) rfl rfl
theorem ldyZpX (b : Byte) : Statement (.ldyZpX b) := of_decode (decodeOpcode_ldyZpX 0 0) rfl rfl
theorem ldyAbsX (w : Word) : Statement (.ldyAbsX w) := of_decode (decodeOpcode_ldyAbsX 0 0) rfl rfl
theorem staIndX (b : Byte) : Statement (.staIndX b) := of_decode (decodeOpcode_staIndX 0 0) rfl rfl
theorem staZp (b : Byte) : Statement (.staZp b) := of_decode (decodeOpcode_staZp 0 0) rfl rfl
theorem staAbs (w : Word) : Statement (.staAbs w) := of_decode (decodeOpcode_staAbs 0 0) rfl rfl
theorem staIndY (b : Byte) : Statement (.staIndY b) := of_decode (decodeOpcode_staIndY 0 0) rfl rfl
theorem staIndZp (b : Byte) : Statement (.staIndZp b) := of_decode (decodeOpcode_staIndZp 0 0) rfl rfl
theorem staZpX (b : Byte) : Statement (.staZpX b) := of_decode (decodeOpcode_staZpX 0 0) rfl rfl
theorem staAbsY (w : Word) : Statement (.staAbsY w) := of_decode (decodeOpcode_staAbsY 0 0) rfl rfl
theorem staAbsX (w : Word) : Statement (.staAbsX w) := of_decode (decodeOpcode_staAbsX 0 0) rfl rfl
theorem stxZp (b : Byte) : Statement (.stxZp b) := of_decode (decodeOpcode_stxZp 0 0) rfl rfl
theorem stxAbs (w : Word) : Statement (.stxAbs w) := of_decode (decodeOpcode_stxAbs 0 0) rfl rfl
theorem stxZpY (b : Byte) : Statement (.stxZpY b) := of_decode (decodeOpcode_stxZpY 0 0) rfl rfl
theorem styZp (b : Byte) : Statement (.styZp b) := of_decode (decodeOpcode_styZp 0 0) rfl rfl
theorem styAbs (w : Word) : Statement (.styAbs w) := of_decode (decodeOpcode_styAbs 0 0) rfl rfl
theorem styZpX (b : Byte) : Statement (.styZpX b) := of_decode (decodeOpcode_styZpX 0 0) rfl rfl
theorem tax : Statement (.tax) := of_decode (decodeOpcode_tax 0 0) rfl rfl
theorem tay : Statement (.tay) := of_decode (decodeOpcode_tay 0 0) rfl rfl
theorem txa : Statement (.txa) := of_decode (decodeOpcode_txa 0 0) rfl rfl
theorem tya : Statement (.tya) := of_decode (decodeOpcode_tya 0 0) rfl rfl
theorem tsx : Statement (.tsx) := of_decode (decodeOpcode_tsx 0 0) rfl rfl
theorem txs : Statement (.txs) := of_decode (decodeOpcode_txs 0 0) rfl rfl
theorem adcIndX (b : Byte) : Statement (.adcIndX b) := of_decode (decodeOpcode_adcIndX 0 0) rfl rfl
theorem adcZp (b : Byte) : Statement (.adcZp b) := of_decode (decodeOpcode_adcZp 0 0) rfl rfl
theorem adcImm (v : Byte) : Statement (.adcImm v) := of_decode (decodeOpcode_adcImm 0 0) rfl rfl
theorem adcAbs (w : Word) : Statement (.adcAbs w) := of_decode (decodeOpcode_adcAbs 0 0) rfl rfl
theorem adcIndY (b : Byte) : Statement (.adcIndY b) := of_decode (decodeOpcode_adcIndY 0 0) rfl rfl
theorem adcIndZp (b : Byte) : Statement (.adcIndZp b) := of_decode (decodeOpcode_adcIndZp 0 0) rfl rfl
theorem adcZpX (b : Byte) : Statement (.adcZpX b) := of_decode (decodeOpcode_adcZpX 0 0) rfl rfl
theorem adcAbsY (w : Word) : Statement (.adcAbsY w) := of_decode (decodeOpcode_adcAbsY 0 0) rfl rfl
theorem adcAbsX (w : Word) : Statement (.adcAbsX w) := of_decode (decodeOpcode_adcAbsX 0 0) rfl rfl
theorem sbcIndX (b : Byte) : Statement (.sbcIndX b) := of_decode (decodeOpcode_sbcIndX 0 0) rfl rfl
theorem sbcZp (b : Byte) : Statement (.sbcZp b) := of_decode (decodeOpcode_sbcZp 0 0) rfl rfl
theorem sbcImm (v : Byte) : Statement (.sbcImm v) := of_decode (decodeOpcode_sbcImm 0 0) rfl rfl
theorem sbcAbs (w : Word) : Statement (.sbcAbs w) := of_decode (decodeOpcode_sbcAbs 0 0) rfl rfl
theorem sbcIndY (b : Byte) : Statement (.sbcIndY b) := of_decode (decodeOpcode_sbcIndY 0 0) rfl rfl
theorem sbcIndZp (b : Byte) : Statement (.sbcIndZp b) := of_decode (decodeOpcode_sbcIndZp 0 0) rfl rfl
theorem sbcZpX (b : Byte) : Statement (.sbcZpX b) := of_decode (decodeOpcode_sbcZpX 0 0) rfl rfl
theorem sbcAbsY (w : Word) : Statement (.sbcAbsY w) := of_decode (decodeOpcode_sbcAbsY 0 0) rfl rfl
theorem sbcAbsX (w : Word) : Statement (.sbcAbsX w) := of_decode (decodeOpcode_sbcAbsX 0 0) rfl rfl
theorem cmpIndX (b : Byte) : Statement (.cmpIndX b) := of_decode (decodeOpcode_cmpIndX 0 0) rfl rfl
theorem cmpZp (b : Byte) : Statement (.cmpZp b) := of_decode (decodeOpcode_cmpZp 0 0) rfl rfl
theorem cmpImm (v : Byte) : Statement (.cmpImm v) := of_decode (decodeOpcode_cmpImm 0 0) rfl rfl
theorem cmpAbs (w : Word) : Statement (.cmpAbs w) := of_decode (decodeOpcode_cmpAbs 0 0) rfl rfl
theorem cmpIndY (b : Byte) : Statement (.cmpIndY b) := of_decode (decodeOpcode_cmpIndY 0 0) rfl rfl
theorem cmpIndZp (b : Byte) : Statement (.cmpIndZp b) := of_decode (decodeOpcode_cmpIndZp 0 0) rfl rfl
theorem cmpZpX (b : Byte) : Statement (.cmpZpX b) := of_decode (decodeOpcode_cmpZpX 0 0) rfl rfl
theorem cmpAbsY (w : Word) : Statement (.cmpAbsY w) := of_decode (decodeOpcode_cmpAbsY 0 0) rfl rfl
theorem cmpAbsX (w : Word) : Statement (.cmpAbsX w) := of_decode (decodeOpcode_cmpAbsX 0 0) rfl rfl
theorem cpxImm (v : Byte) : Statement (.cpxImm v) := of_decode (decodeOpcode_cpxImm 0 0) rfl rfl
theorem cpxZp (b : Byte) : Statement (.cpxZp b) := of_decode (decodeOpcode_cpxZp 0 0) rfl rfl
theorem cpxAbs (w : Word) : Statement (.cpxAbs w) := of_decode (decodeOpcode_cpxAbs 0 0) rfl rfl
theorem cpyImm (v : Byte) : Statement (.cpyImm v) := of_decode (decodeOpcode_cpyImm 0 0) rfl rfl
theorem cpyZp (b : Byte) : Statement (.cpyZp b) := of_decode (decodeOpcode_cpyZp 0 0) rfl rfl
theorem cpyAbs (w : Word) : Statement (.cpyAbs w) := of_decode (decodeOpcode_cpyAbs 0 0) rfl rfl
theorem incZp (b : Byte) : Statement (.incZp b) := of_decode (decodeOpcode_incZp 0 0) rfl rfl
theorem incAbs (w : Word) : Statement (.incAbs w) := of_decode (decodeOpcode_incAbs 0 0) rfl rfl
theorem incZpX (b : Byte) : Statement (.incZpX b) := of_decode (decodeOpcode_incZpX 0 0) rfl rfl
theorem incAbsX (w : Word) : Statement (.incAbsX w) := of_decode (decodeOpcode_incAbsX 0 0) rfl rfl
theorem decZp (b : Byte) : Statement (.decZp b) := of_decode (decodeOpcode_decZp 0 0) rfl rfl
theorem decAbs (w : Word) : Statement (.decAbs w) := of_decode (decodeOpcode_decAbs 0 0) rfl rfl
theorem decZpX (b : Byte) : Statement (.decZpX b) := of_decode (decodeOpcode_decZpX 0 0) rfl rfl
theorem decAbsX (w : Word) : Statement (.decAbsX w) := of_decode (decodeOpcode_decAbsX 0 0) rfl rfl
theorem inx : Statement (.inx) := of_decode (decodeOpcode_inx 0 0) rfl rfl
theorem iny : Statement (.iny) := of_decode (decodeOpcode_iny 0 0) rfl rfl
theorem dex : Statement (.dex) := of_decode (decodeOpcode_dex 0 0) rfl rfl
theorem dey : Statement (.dey) := of_decode (decodeOpcode_dey 0 0) rfl rfl
theorem andIndX (b : Byte) : Statement (.andIndX b) := of_decode (decodeOpcode_andIndX 0 0) rfl rfl
theorem andZp (b : Byte) : Statement (.andZp b) := of_decode (decodeOpcode_andZp 0 0) rfl rfl
theorem andImm (v : Byte) : Statement (.andImm v) := of_decode (decodeOpcode_andImm 0 0) rfl rfl
theorem andAbs (w : Word) : Statement (.andAbs w) := of_decode (decodeOpcode_andAbs 0 0) rfl rfl
theorem andIndY (b : Byte) : Statement (.andIndY b) := of_decode (decodeOpcode_andIndY 0 0) rfl rfl
theorem andIndZp (b : Byte) : Statement (.andIndZp b) := of_decode (decodeOpcode_andIndZp 0 0) rfl rfl
theorem andZpX (b : Byte) : Statement (.andZpX b) := of_decode (decodeOpcode_andZpX 0 0) rfl rfl
theorem andAbsY (w : Word) : Statement (.andAbsY w) := of_decode (decodeOpcode_andAbsY 0 0) rfl rfl
theorem andAbsX (w : Word) : Statement (.andAbsX w) := of_decode (decodeOpcode_andAbsX 0 0) rfl rfl
theorem oraIndX (b : Byte) : Statement (.oraIndX b) := of_decode (decodeOpcode_oraIndX 0 0) rfl rfl
theorem oraZp (b : Byte) : Statement (.oraZp b) := of_decode (decodeOpcode_oraZp 0 0) rfl rfl
theorem oraImm (v : Byte) : Statement (.oraImm v) := of_decode (decodeOpcode_oraImm 0 0) rfl rfl
theorem oraAbs (w : Word) : Statement (.oraAbs w) := of_decode (decodeOpcode_oraAbs 0 0) rfl rfl
theorem oraIndY (b : Byte) : Statement (.oraIndY b) := of_decode (decodeOpcode_oraIndY 0 0) rfl rfl
theorem oraIndZp (b : Byte) : Statement (.oraIndZp b) := of_decode (decodeOpcode_oraIndZp 0 0) rfl rfl
theorem oraZpX (b : Byte) : Statement (.oraZpX b) := of_decode (decodeOpcode_oraZpX 0 0) rfl rfl
theorem oraAbsY (w : Word) : Statement (.oraAbsY w) := of_decode (decodeOpcode_oraAbsY 0 0) rfl rfl
theorem oraAbsX (w : Word) : Statement (.oraAbsX w) := of_decode (decodeOpcode_oraAbsX 0 0) rfl rfl
theorem eorIndX (b : Byte) : Statement (.eorIndX b) := of_decode (decodeOpcode_eorIndX 0 0) rfl rfl
theorem eorZp (b : Byte) : Statement (.eorZp b) := of_decode (decodeOpcode_eorZp 0 0) rfl rfl
theorem eorImm (v : Byte) : Statement (.eorImm v) := of_decode (decodeOpcode_eorImm 0 0) rfl rfl
theorem eorAbs (w : Word) : Statement (.eorAbs w) := of_decode (decodeOpcode_eorAbs 0 0) rfl rfl
theorem eorIndY (b : Byte) : Statement (.eorIndY b) := of_decode (decodeOpcode_eorIndY 0 0) rfl rfl
theorem eorIndZp (b : Byte) : Statement (.eorIndZp b) := of_decode (decodeOpcode_eorIndZp 0 0) rfl rfl
theorem eorZpX (b : Byte) : Statement (.eorZpX b) := of_decode (decodeOpcode_eorZpX 0 0) rfl rfl
theorem eorAbsY (w : Word) : Statement (.eorAbsY w) := of_decode (decodeOpcode_eorAbsY 0 0) rfl rfl
theorem eorAbsX (w : Word) : Statement (.eorAbsX w) := of_decode (decodeOpcode_eorAbsX 0 0) rfl rfl
theorem bitZp (b : Byte) : Statement (.bitZp b) := of_decode (decodeOpcode_bitZp 0 0) rfl rfl
theorem bitAbs (w : Word) : Statement (.bitAbs w) := of_decode (decodeOpcode_bitAbs 0 0) rfl rfl
theorem aslZp (b : Byte) : Statement (.aslZp b) := of_decode (decodeOpcode_aslZp 0 0) rfl rfl
theorem aslA : Statement (.aslA) := of_decode (decodeOpcode_aslA 0 0) rfl rfl
theorem aslAbs (w : Word) : Statement (.aslAbs w) := of_decode (decodeOpcode_aslAbs 0 0) rfl rfl
theorem aslZpX (b : Byte) : Statement (.aslZpX b) := of_decode (decodeOpcode_aslZpX 0 0) rfl rfl
theorem aslAbsX (w : Word) : Statement (.aslAbsX w) := of_decode (decodeOpcode_aslAbsX 0 0) rfl rfl
theorem lsrZp (b : Byte) : Statement (.lsrZp b) := of_decode (decodeOpcode_lsrZp 0 0) rfl rfl
theorem lsrA : Statement (.lsrA) := of_decode (decodeOpcode_lsrA 0 0) rfl rfl
theorem lsrAbs (w : Word) : Statement (.lsrAbs w) := of_decode (decodeOpcode_lsrAbs 0 0) rfl rfl
theorem lsrZpX (b : Byte) : Statement (.lsrZpX b) := of_decode (decodeOpcode_lsrZpX 0 0) rfl rfl
theorem lsrAbsX (w : Word) : Statement (.lsrAbsX w) := of_decode (decodeOpcode_lsrAbsX 0 0) rfl rfl
theorem rolZp (b : Byte) : Statement (.rolZp b) := of_decode (decodeOpcode_rolZp 0 0) rfl rfl
theorem rolA : Statement (.rolA) := of_decode (decodeOpcode_rolA 0 0) rfl rfl
theorem rolAbs (w : Word) : Statement (.rolAbs w) := of_decode (decodeOpcode_rolAbs 0 0) rfl rfl
theorem rolZpX (b : Byte) : Statement (.rolZpX b) := of_decode (decodeOpcode_rolZpX 0 0) rfl rfl
theorem rolAbsX (w : Word) : Statement (.rolAbsX w) := of_decode (decodeOpcode_rolAbsX 0 0) rfl rfl
theorem rorZp (b : Byte) : Statement (.rorZp b) := of_decode (decodeOpcode_rorZp 0 0) rfl rfl
theorem rorA : Statement (.rorA) := of_decode (decodeOpcode_rorA 0 0) rfl rfl
theorem rorAbs (w : Word) : Statement (.rorAbs w) := of_decode (decodeOpcode_rorAbs 0 0) rfl rfl
theorem rorZpX (b : Byte) : Statement (.rorZpX b) := of_decode (decodeOpcode_rorZpX 0 0) rfl rfl
theorem rorAbsX (w : Word) : Statement (.rorAbsX w) := of_decode (decodeOpcode_rorAbsX 0 0) rfl rfl
theorem tsbZp (b : Byte) : Statement (.tsbZp b) := of_decode (decodeOpcode_tsbZp 0 0) rfl rfl
theorem tsbAbs (w : Word) : Statement (.tsbAbs w) := of_decode (decodeOpcode_tsbAbs 0 0) rfl rfl
theorem trbZp (b : Byte) : Statement (.trbZp b) := of_decode (decodeOpcode_trbZp 0 0) rfl rfl
theorem trbAbs (w : Word) : Statement (.trbAbs w) := of_decode (decodeOpcode_trbAbs 0 0) rfl rfl
theorem bpl (d : Byte) : Statement (.bpl d) := of_decode (decodeOpcode_bpl 0 0) rfl rfl
theorem bmi (d : Byte) : Statement (.bmi d) := of_decode (decodeOpcode_bmi 0 0) rfl rfl
theorem bvc (d : Byte) : Statement (.bvc d) := of_decode (decodeOpcode_bvc 0 0) rfl rfl
theorem bvs (d : Byte) : Statement (.bvs d) := of_decode (decodeOpcode_bvs 0 0) rfl rfl
theorem bcc (d : Byte) : Statement (.bcc d) := of_decode (decodeOpcode_bcc 0 0) rfl rfl
theorem bcs (d : Byte) : Statement (.bcs d) := of_decode (decodeOpcode_bcs 0 0) rfl rfl
theorem bne (d : Byte) : Statement (.bne d) := of_decode (decodeOpcode_bne 0 0) rfl rfl
theorem beq (d : Byte) : Statement (.beq d) := of_decode (decodeOpcode_beq 0 0) rfl rfl
theorem bra (d : Byte) : Statement (.bra d) := of_decode (decodeOpcode_bra 0 0) rfl rfl
theorem jmpAbs (w : Word) : Statement (.jmpAbs w) := of_decode (decodeOpcode_jmpAbs 0 0) rfl rfl
theorem jmpInd (w : Word) : Statement (.jmpInd w) := of_decode (decodeOpcode_jmpInd 0 0) rfl rfl
theorem jmpAbsIndX (w : Word) : Statement (.jmpAbsIndX w) := of_decode (decodeOpcode_jmpAbsIndX 0 0) rfl rfl
theorem pha : Statement (.pha) := of_decode (decodeOpcode_pha 0 0) rfl rfl
theorem php : Statement (.php) := of_decode (decodeOpcode_php 0 0) rfl rfl
theorem pla : Statement (.pla) := of_decode (decodeOpcode_pla 0 0) rfl rfl
theorem plp : Statement (.plp) := of_decode (decodeOpcode_plp 0 0) rfl rfl
theorem jsr (w : Word) : Statement (.jsr w) := of_decode (decodeOpcode_jsr 0 0) rfl rfl
theorem rts : Statement (.rts) := of_decode (decodeOpcode_rts 0 0) rfl rfl
theorem clc : Statement (.clc) := of_decode (decodeOpcode_clc 0 0) rfl rfl
theorem sec : Statement (.sec) := of_decode (decodeOpcode_sec 0 0) rfl rfl
theorem cli : Statement (.cli) := of_decode (decodeOpcode_cli 0 0) rfl rfl
theorem sei : Statement (.sei) := of_decode (decodeOpcode_sei 0 0) rfl rfl
theorem cld : Statement (.cld) := of_decode (decodeOpcode_cld 0 0) rfl rfl
theorem sed : Statement (.sed) := of_decode (decodeOpcode_sed 0 0) rfl rfl
theorem clv : Statement (.clv) := of_decode (decodeOpcode_clv 0 0) rfl rfl
theorem nop : Statement (.nop) := of_decode (decodeOpcode_nop 0 0) rfl rfl
theorem brk : Statement (.brk) := of_decode (decodeOpcode_brk 0 0) rfl rfl
theorem rti : Statement (.rti) := of_decode (decodeOpcode_rti 0 0) rfl rfl
theorem unsettledIncA : Statement (.unsettledIncA) := of_decode (decodeOpcode_unsettledIncA 0 0) rfl rfl
theorem unsettledBitZpX (b : Byte) : Statement (.unsettledBitZpX b) := of_decode (decodeOpcode_unsettledBitZpX 0 0) rfl rfl
theorem unsettledDecA : Statement (.unsettledDecA) := of_decode (decodeOpcode_unsettledDecA 0 0) rfl rfl
theorem unsettledBitAbsX (w : Word) : Statement (.unsettledBitAbsX w) := of_decode (decodeOpcode_unsettledBitAbsX 0 0) rfl rfl
theorem unsettledPhy : Statement (.unsettledPhy) := of_decode (decodeOpcode_unsettledPhy 0 0) rfl rfl
theorem unsettledStzZp (b : Byte) : Statement (.unsettledStzZp b) := of_decode (decodeOpcode_unsettledStzZp 0 0) rfl rfl
theorem unsettledStzZpX (b : Byte) : Statement (.unsettledStzZpX b) := of_decode (decodeOpcode_unsettledStzZpX 0 0) rfl rfl
theorem unsettledPly : Statement (.unsettledPly) := of_decode (decodeOpcode_unsettledPly 0 0) rfl rfl
theorem unsettledBitImm (v : Byte) : Statement (.unsettledBitImm v) := of_decode (decodeOpcode_unsettledBitImm 0 0) rfl rfl
theorem unsettledStzAbs (w : Word) : Statement (.unsettledStzAbs w) := of_decode (decodeOpcode_unsettledStzAbs 0 0) rfl rfl
theorem unsettledStzAbsX (w : Word) : Statement (.unsettledStzAbsX w) := of_decode (decodeOpcode_unsettledStzAbsX 0 0) rfl rfl
theorem unsettledPhx : Statement (.unsettledPhx) := of_decode (decodeOpcode_unsettledPhx 0 0) rfl rfl
theorem unsettledPlx : Statement (.unsettledPlx) := of_decode (decodeOpcode_unsettledPlx 0 0) rfl rfl

theorem illegal (op : Byte) : Statement (.illegal op) := fun h =>
  of_decode (decodeOpcode_illegal 0 0 op (List.contains_iff_mem.mp h)) rfl rfl h

end Sys2Proof.Laws.EncodedForm
end

