-- ==== Sys2Proof/Laws/Settings.lean ====
section
/-! SUPPORT. The machine under a setting: `exec` is `perform` at `Config.params`, when an instruction is refused, and the equations of
batches and histories. -/

namespace Sys2Proof

@[simp] theorem Setting.fill_ofParams (c d : Params) : (Setting.ofParams c).fill d = c := rfl

@[simp] theorem Setting.refuses_ofParams (c : Params) (u : Machine.Unsettled) : (Setting.ofParams c).refuses u = false := by
  cases u <;> rfl

@[simp] theorem Setting.refuses_default (o : IrqPushOffset) (w : Wr13Event) (u : Machine.Unsettled) :
    (Setting.default o w).refuses u = true := by
  cases u <;> rfl

namespace Machine

/-- The dispatch is R104's `Perform` at the machine's parameters. -/
theorem exec_eq_perform (i : Instr) (s : State) : exec i s = .next (perform Config.params i s) := by
  cases i <;> rfl

@[simp] theorem pointsOfSum_eq_nil {n : Nat} : pointsOfSum n = [] ↔ n ≤ 0xFFFF := by
  unfold pointsOfSum; split <;> simp_all

@[simp] theorem pointsOfPointer_eq_nil {p : Byte} : pointsOfPointer p = [] ↔ p ≠ 0xFF := by
  unfold pointsOfPointer; split <;> simp_all

/-- An instruction is refused exactly at the first point it reaches that the setting leaves unsettled. -/
theorem execUnder_refused {g : Setting} {i : Instr} {s : State} {u : Unsettled}
    (h : (instrPoints (g.fill Config.params) i s).find? g.refuses = some u) :
    execUnder g i s = .refused (.unsettled u) := by
  simp [execUnder, h]

/-- An instruction that reaches no point the setting leaves unsettled is performed. -/
theorem execUnder_next {g : Setting} {i : Instr} {s : State}
    (h : ∀ u ∈ instrPoints (g.fill Config.params) i s, g.refuses u = false) :
    execUnder g i s = .next (perform (g.fill Config.params) i s) := by
  have h : (instrPoints (g.fill Config.params) i s).find? g.refuses = none := by simpa using h
  simp [execUnder, h]

/-- All that an instruction under a setting can do. -/
theorem execUnder_cases (g : Setting) (i : Instr) (s : State) :
    (execUnder g i s = .next (perform (g.fill Config.params) i s) ∧
      ∀ u ∈ instrPoints (g.fill Config.params) i s, g.refuses u = false) ∨
    ∃ u ∈ instrPoints (g.fill Config.params) i s, g.refuses u = true ∧ execUnder g i s = .refused (.unsettled u) := by
  cases h : (instrPoints (g.fill Config.params) i s).find? g.refuses with
  | none =>
    have h : ∀ u ∈ instrPoints (g.fill Config.params) i s, g.refuses u = false := by simpa using h
    exact .inl ⟨execUnder_next h, h⟩
  | some u => exact .inr ⟨u, List.mem_of_find?_eq_some h, List.find?_some h, execUnder_refused h⟩

@[simp] theorem stepUnder_halted {g : Setting} {s : State} (h : s.halted = true) : stepUnder g s = .next s := by
  simp [stepUnder, h]

@[simp] theorem batch_zero (f : State → Outcome) (s : State) : batch f 0 s = .next s := rfl

@[simp] theorem batch_halted {f : State → Outcome} {n : Nat} {s : State} (h : s.halted = true) : batch f n s = .next s := by
  cases n <;> simp [batch, h]

theorem batch_succ_next {f : State → Outcome} {n : Nat} {s t : State} (h : s.halted = false) (hf : f s = .next t) :
    batch f (n + 1) s = batch f n t := by
  simp [batch, h, hf]

theorem batch_succ_refused {f : State → Outcome} {n : Nat} {s : State} {r : Refusal} (h : s.halted = false)
    (hf : f s = .refused r) : batch f (n + 1) s = .refused r := by
  simp [batch, h, hf]

@[simp] theorem history_nil (f : HostOp → State → Outcome) (s : State) : history f [] s = .next s := rfl

theorem history_cons_next {f : HostOp → State → Outcome} {op : HostOp} {ops : List HostOp} {s t : State} (h : f op s = .next t) :
    history f (op :: ops) s = history f ops t := by
  simp [history, h]

end Machine
end Sys2Proof
end

