-- ==== Sys2Proof/Tests/Slice0.lean ====
section
/-! SUPPORT. Tests: the well-formedness smoke test, decoding of words written out from the opcode map, one step per mnemonic on the
worked example of its rule, the vectors of 95_test_vectors.md that need a parameter or a peripheral, and for every statement with
hypotheses a witness that meets them. The expected values are the spec's, cited at each test. -/

namespace Sys2Proof.Tests

open Sys2Proof.Machine

/-! ### Well-formedness and decoding -/

theorem test_wf_refuses_legal_byte_as_illegal : (Instr.illegal 0xEA).wf = false := by decide
theorem test_wf_refuses_unsettled_byte_as_illegal : (Instr.illegal 0x1A).wf = false := by decide
theorem test_wf_accepts_illegal_slot : (Instr.illegal 0xFF).wf = true := by decide

/-- R108: 78 slots. -/
theorem test_illegal_slots_count : illegalSlots.length = 78 := by decide

/-! Words from the map of R106, at least one per family; the operand bytes are R101's, a word low byte first. -/

theorem test_decode_lda_indY : decode [0xB1, 0x40] = .ok (.ldaIndY 0x40, []) := rfl
theorem test_decode_stx_zpY : decode [0x96, 0xFF] = .ok (.stxZpY 0xFF, []) := rfl
theorem test_decode_adc_absY : decode [0x79, 0x34, 0x12] = .ok (.adcAbsY 0x1234, []) := rfl
theorem test_decode_dec_zpX : decode [0xD6, 0x10] = .ok (.decZpX 0x10, []) := rfl
theorem test_decode_eor_indX : decode [0x41, 0x20] = .ok (.eorIndX 0x20, []) := rfl
theorem test_decode_ror_absX : decode [0x7E, 0x00, 0x80] = .ok (.rorAbsX 0x8000, []) := rfl
theorem test_decode_trb_zp : decode [0x14, 0x40] = .ok (.trbZp 0x40, []) := rfl
theorem test_decode_bvs : decode [0x70, 0x80] = .ok (.bvs 0x80, []) := rfl
theorem test_decode_jmp_ind : decode [0x6C, 0xFF, 0x04] = .ok (.jmpInd 0x04FF, []) := rfl
theorem test_decode_plp : decode [0x28] = .ok (.plp, []) := rfl
theorem test_decode_sed : decode [0xF8] = .ok (.sed, []) := rfl
theorem test_decode_rti : decode [0x40] = .ok (.rti, []) := rfl
theorem test_decode_illegal : decode [0xCB, 0x01] = .ok (.illegal 0xCB, [0x01]) := rfl
theorem test_decode_unsettled : decode [0x34, 0x10] = .ok (.unsettledBitZpX 0x10, []) := rfl
theorem test_decode_rejects_truncated : decode [0xAD, 0x34] = .error (.truncated 2 1) := rfl
theorem test_decode_rejects_nothing : decode [] = .error .noBytes := rfl
theorem test_table_word : decodeTableWord 24 0x1234AD = some (.ldaAbs 0x1234) := by decide
theorem test_table_word_short : decodeTableWord 8 0xAD = some (.ldaAbs 0) := by decide

/-! ### One step per mnemonic -/

/-- A small state: PC = 0x0300, SP = 0xFF, everything else as after reset. -/
def start : State := { State.reset with pc := 0x0300, sp := 0xFF }

/-- A state with the bytes at the addresses. -/
def State.putting (bs : List (Nat × Byte)) (s : State) : State :=
  { s with mem := bs.foldl (fun m c => m.write c.1 c.2) s.mem }

/-- The state after one step of the bytes at PC (three at most). -/
def ran (bytes : List Byte) (s : State) : State :=
  match step (State.putting ((bytes.zip [s.pc, s.pc + 1, s.pc + 2]).map fun c => (c.2.toNat, c.1)) s) with
  | .next t => t
  | _ => s

/-- The flags N, V, D, I, Z, C of the bits of a digit string. -/
def flags (n v d i z c : Nat) : Flags := ⟨n = 1, v = 1, d = 1, i = 1, z = 1, c = 1⟩

/-- The example of R150. -/
theorem test_lda :
    (fun t : State => (t.a, t.p, t.pc)) (ran [0xA9, 0x00] { start with a := 0x12 }) = (0x00, flags 0 0 0 0 1 0, 0x0302) := by decide

/-- The example of R151. -/
theorem test_ldx :
    (fun t : State => (t.x, t.p)) (ran [0xA2, 0xFF] start) = (0xFF, flags 1 0 0 0 0 0) := by decide

/-- The example of R152. -/
theorem test_ldy :
    (fun t : State => (t.y, t.p)) (ran [0xA0, 0x7F] { start with p := flags 1 0 0 0 1 0 }) = (0x7F, flags 0 0 0 0 0 0) := by decide

/-- The example of R153. -/
theorem test_sta_display :
    (fun t : State => (t.trace, t.dspLatch, t.p)) (ran [0x8D, 0x12, 0xD0] { start with a := 0xC1 }) = ([.output 0x41], 0xC1, flags 0 0 0 0 0 0) := by decide

/-- The example of R154. -/
theorem test_stx :
    (fun t : State => (t.mem)) (ran [0x86, 0x10] { start with x := 0x05 }) = ([(0x10, 0x05), (0x300, 0x86), (0x301, 0x10)]) := by decide

/-- R155, with another value than the example of R155. -/
theorem test_sty :
    (fun t : State => (t.mem)) (ran [0x8C, 0x00, 0x02] (State.putting [(0x200, 0x01)] { start with y := 0x09 })) = ([(0x200, 0x09), (0x300, 0x8C), (0x302, 0x02)]) := by decide

/-- The example of R156. -/
theorem test_tax :
    (fun t : State => (t.x, t.p)) (ran [0xAA] { start with a := 0x80 }) = (0x80, flags 1 0 0 0 0 0) := by decide

/-- The example of R157. -/
theorem test_tay :
    (fun t : State => (t.y, t.p)) (ran [0xA8] { start with y := 0x01 }) = (0x00, flags 0 0 0 0 1 0) := by decide

/-- The example of R158. -/
theorem test_txa :
    (fun t : State => (t.a, t.p)) (ran [0x8A] { start with x := 0x7F }) = (0x7F, flags 0 0 0 0 0 0) := by decide

/-- The example of R159. -/
theorem test_tya :
    (fun t : State => (t.a, t.p)) (ran [0x98] { start with y := 0xFE }) = (0xFE, flags 1 0 0 0 0 0) := by decide

/-- The example of R160. -/
theorem test_tsx :
    (fun t : State => (t.x, t.p)) (ran [0xBA] { start with sp := 0xFD }) = (0xFD, flags 1 0 0 0 0 0) := by decide

/-- The example of R161. -/
theorem test_txs :
    (fun t : State => (t.sp, t.p)) (ran [0x9A] { start with x := 0xFF, sp := 0x10 }) = (0xFF, flags 0 0 0 0 0 0) := by decide

/-- The first corner case of R172. -/
theorem test_adc_overflow :
    (fun t : State => (t.a, t.p)) (ran [0x69, 0x01] { start with a := 0x7F }) = (0x80, flags 1 1 0 0 0 0) := by decide

/-- The example of R174. -/
theorem test_sbc :
    (fun t : State => (t.a, t.p)) (ran [0xE9, 0x03] { start with a := 0x05 }) = (0x01, flags 0 0 0 0 0 1) := by decide

/-- The example of R180. -/
theorem test_cmp :
    (fun t : State => (t.a, t.p)) (ran [0xC9, 0x40] { start with a := 0x40 }) = (0x40, flags 0 0 0 0 1 1) := by decide

/-- The example of R181. -/
theorem test_cpx :
    (fun t : State => (t.x, t.p)) (ran [0xE0, 0x0A] { start with x := 0x05 }) = (0x05, flags 1 0 0 0 0 0) := by decide

/-- The example of R182. -/
theorem test_cpy :
    (fun t : State => (t.y, t.p)) (ran [0xC0, 0x08] { start with y := 0x10 }) = (0x10, flags 0 0 0 0 0 1) := by decide

/-- The example of R183. -/
theorem test_inc :
    (fun t : State => (t.mem, t.p)) (ran [0xE6, 0x10] (State.putting [(0x10, 0xFF)] start)) = ([(0x300, 0xE6), (0x301, 0x10)], flags 0 0 0 0 1 0) := by decide

/-- At another address, the example of R184. -/
theorem test_dec :
    (fun t : State => (t.mem, t.p)) (ran [0xCE, 0x00, 0x02] start) = ([(0x200, 0xFF), (0x300, 0xCE), (0x302, 0x02)], flags 1 0 0 0 0 0) := by decide

/-- The example of R185. -/
theorem test_inx :
    (fun t : State => (t.x, t.p)) (ran [0xE8] { start with x := 0x7F }) = (0x80, flags 1 0 0 0 0 0) := by decide

/-- The example of R186. -/
theorem test_iny :
    (fun t : State => (t.y, t.p)) (ran [0xC8] start) = (0x01, flags 0 0 0 0 0 0) := by decide

/-- The example of R187. -/
theorem test_dex :
    (fun t : State => (t.x, t.p)) (ran [0xCA] { start with x := 0x01 }) = (0x00, flags 0 0 0 0 1 0) := by decide

/-- The example of R188. -/
theorem test_dey :
    (fun t : State => (t.y, t.p)) (ran [0x88] { start with y := 0x80 }) = (0x7F, flags 0 0 0 0 0 0) := by decide

/-- The example of R201. -/
theorem test_and :
    (fun t : State => (t.a, t.p)) (ran [0x29, 0x3C] { start with a := 0xF0 }) = (0x30, flags 0 0 0 0 0 0) := by decide

/-- The example of R202. -/
theorem test_ora :
    (fun t : State => (t.a, t.p)) (ran [0x09, 0x80] { start with a := 0x01 }) = (0x81, flags 1 0 0 0 0 0) := by decide

/-- The example of R203. -/
theorem test_eor :
    (fun t : State => (t.a, t.p)) (ran [0x49, 0xFF] { start with a := 0xAA }) = (0x55, flags 0 0 0 0 0 0) := by decide

/-- The example of R204. -/
theorem test_bit :
    (fun t : State => (t.a, t.p)) (ran [0x24, 0x20] (State.putting [(0x20, 0x41)] { start with a := 0x01 })) = (0x01, flags 0 1 0 0 0 0) := by decide

/-- The example of R205. -/
theorem test_asl :
    (fun t : State => (t.a, t.p)) (ran [0x0A] { start with a := 0x81 }) = (0x02, flags 0 0 0 0 0 1) := by decide

/-- The example of R206. -/
theorem test_lsr :
    (fun t : State => (t.mem, t.p)) (ran [0x46, 0x30] (State.putting [(0x30, 0x02)] start)) = ([(0x30, 0x01), (0x300, 0x46), (0x301, 0x30)], flags 0 0 0 0 0 0) := by decide

/-- The example of R207. -/
theorem test_rol :
    (fun t : State => (t.a, t.p)) (ran [0x2A] { start with a := 0x40, p := flags 0 0 0 0 0 1 }) = (0x81, flags 1 0 0 0 0 0) := by decide

/-- The example of R208. -/
theorem test_ror :
    (fun t : State => (t.a, t.p)) (ran [0x6A] { start with a := 0x03 }) = (0x01, flags 0 0 0 0 0 1) := by decide

/-- The example of R209. -/
theorem test_tsb :
    (fun t : State => (t.mem, t.p)) (ran [0x04, 0x40] (State.putting [(0x40, 0xF0)] { start with a := 0x0F })) = ([(0x40, 0xFF), (0x300, 0x04), (0x301, 0x40)], flags 0 0 0 0 0 0) := by decide

/-- The example of R210. -/
theorem test_trb :
    (fun t : State => (t.mem, t.p)) (ran [0x14, 0x40] (State.putting [(0x40, 0xFF)] { start with a := 0x0F })) = ([(0x40, 0xF0), (0x300, 0x14), (0x301, 0x40)], flags 0 0 0 0 0 0) := by decide

/-- The example of R231. -/
theorem test_bpl :
    (fun t : State => (t.pc)) (ran [0x10, 0x80] start) = (0x0282) := by decide

/-- The example of R232. -/
theorem test_bmi :
    (fun t : State => (t.pc)) (ran [0x30, 0x10] start) = (0x0302) := by decide

/-- From R230: R233. -/
theorem test_bvc_taken :
    (fun t : State => (t.pc)) (ran [0x50, 0x10] { start with p := flags 0 0 0 0 0 0 }) = (0x0312) := by decide

/-- From R230: R233. -/
theorem test_bvc_not_taken :
    (fun t : State => (t.pc)) (ran [0x50, 0x10] { start with p := flags 0 1 0 0 0 0 }) = (0x0302) := by decide

/-- From R230: R234. -/
theorem test_bvs_taken :
    (fun t : State => (t.pc)) (ran [0x70, 0x10] { start with p := flags 0 1 0 0 0 0 }) = (0x0312) := by decide

/-- From R230: R234. -/
theorem test_bvs_not_taken :
    (fun t : State => (t.pc)) (ran [0x70, 0x10] { start with p := flags 0 0 0 0 0 0 }) = (0x0302) := by decide

/-- From R230: R235. -/
theorem test_bcc_taken :
    (fun t : State => (t.pc)) (ran [0x90, 0x10] { start with p := flags 0 0 0 0 0 0 }) = (0x0312) := by decide

/-- From R230: R235. -/
theorem test_bcc_not_taken :
    (fun t : State => (t.pc)) (ran [0x90, 0x10] { start with p := flags 0 0 0 0 0 1 }) = (0x0302) := by decide

/-- From R230: R236. -/
theorem test_bcs_taken :
    (fun t : State => (t.pc)) (ran [0xB0, 0x10] { start with p := flags 0 0 0 0 0 1 }) = (0x0312) := by decide

/-- From R230: R236. -/
theorem test_bcs_not_taken :
    (fun t : State => (t.pc)) (ran [0xB0, 0x10] { start with p := flags 0 0 0 0 0 0 }) = (0x0302) := by decide

/-- From R230: R237. -/
theorem test_bne_taken :
    (fun t : State => (t.pc)) (ran [0xD0, 0x10] { start with p := flags 0 0 0 0 0 0 }) = (0x0312) := by decide

/-- From R230: R237. -/
theorem test_bne_not_taken :
    (fun t : State => (t.pc)) (ran [0xD0, 0x10] { start with p := flags 0 0 0 0 1 0 }) = (0x0302) := by decide

/-- From R230: R238. -/
theorem test_beq_taken :
    (fun t : State => (t.pc)) (ran [0xF0, 0x10] { start with p := flags 0 0 0 0 1 0 }) = (0x0312) := by decide

/-- From R230: R238. -/
theorem test_beq_not_taken :
    (fun t : State => (t.pc)) (ran [0xF0, 0x10] { start with p := flags 0 0 0 0 0 0 }) = (0x0302) := by decide

/-- A corner case of R239. -/
theorem test_bra_wraps :
    (fun t : State => (t.pc)) (ran [0x80, 0x20] { start with pc := 0xFFF0 }) = (0x0012) := by decide

/-- From R240. -/
theorem test_jmp_abs :
    (fun t : State => (t.pc)) (ran [0x4C, 0x34, 0x12] start) = (0x1234) := by decide

/-- The example of R240. -/
theorem test_jmp_ind :
    (fun t : State => (t.pc)) (ran [0x6C, 0x00, 0x02] (State.putting [(0x200, 0x00), (0x201, 0x04)] start)) = (0x0400) := by decide

/-- Vector V1.19. -/
theorem test_jmp_abs_ind_x :
    (ran [0x7C, 0x00, 0x05] (State.putting [(0x503, 0x40)] { start with x := 0x02 })).pc = 0x4000 := by decide

/-- The example of R254. -/
theorem test_pha :
    (fun t : State => (t.mem, t.sp)) (ran [0x48] { start with a := 0x42 }) = ([(0x1FF, 0x42), (0x300, 0x48)], 0xFE) := by decide

/-- The example of R255. -/
theorem test_php :
    (fun t : State => (t.mem, t.sp)) (ran [0x08] { start with p := flags 1 0 0 1 0 1 }) = ([(0x1FF, 0xB5), (0x300, 0x08)], 0xFE) := by decide

/-- The example of R256. -/
theorem test_pla :
    (fun t : State => (t.a, t.sp, t.p)) (ran [0x68] { start with a := 0x01, sp := 0xFE }) = (0x00, 0xFF, flags 0 0 0 0 1 0) := by decide

/-- The example of R257. -/
theorem test_plp :
    (fun t : State => (t.sp, t.p)) (ran [0x28] (State.putting [(0x1FF, 0xFF)] { start with sp := 0xFE })) = (0xFF, flags 1 1 1 1 1 1) := by decide

/-- The example of R258. -/
theorem test_jsr :
    (fun t : State => (t.mem, t.sp, t.pc)) (ran [0x20, 0x00, 0x04] start) = ([(0x1FE, 0x02), (0x1FF, 0x03), (0x300, 0x20), (0x302, 0x04)], 0xFD, 0x0400) := by decide

/-- The example of R259. -/
theorem test_rts :
    (fun t : State => (t.pc, t.sp)) (ran [0x60] (State.putting [(0x1FE, 0x02), (0x1FF, 0x03)] { start with sp := 0xFD })) = (0x0303, 0xFF) := by decide

/-- The example of R270. -/
theorem test_clc :
    (fun t : State => (t.p)) (ran [0x18] { start with p := flags 0 0 0 0 0 1 }) = (flags 0 0 0 0 0 0) := by decide

/-- The example of R271. -/
theorem test_sec :
    (fun t : State => (t.p)) (ran [0x38] { start with p := flags 0 0 0 0 0 0 }) = (flags 0 0 0 0 0 1) := by decide

/-- The example of R272. -/
theorem test_cli :
    (fun t : State => (t.p)) (ran [0x58] { start with p := flags 0 0 0 1 0 0 }) = (flags 0 0 0 0 0 0) := by decide

/-- The example of R273. -/
theorem test_sei :
    (fun t : State => (t.p)) (ran [0x78] { start with p := flags 0 0 0 0 0 0 }) = (flags 0 0 0 1 0 0) := by decide

/-- The example of R274. -/
theorem test_cld :
    (fun t : State => (t.p)) (ran [0xD8] { start with p := flags 0 0 1 0 0 0 }) = (flags 0 0 0 0 0 0) := by decide

/-- The example of R275. -/
theorem test_sed :
    (fun t : State => (t.p)) (ran [0xF8] { start with p := flags 0 0 0 0 0 0 }) = (flags 0 0 1 0 0 0) := by decide

/-- The example of R276. -/
theorem test_clv :
    (fun t : State => (t.p)) (ran [0xB8] { start with p := flags 0 1 0 0 0 0 }) = (flags 0 0 0 0 0 0) := by decide

/-- The example of R277. -/
theorem test_nop : ran [0xEA] start = { start with pc := 0x0301, mem := [(0x300, 0xEA)] } := by decide

/-- The example of R278. -/
theorem test_brk :
    (fun t : State => (t.mem, t.sp, t.pc, t.p)) (ran [0x00] (State.putting [(0xFFFF, 0xFF)] { start with p := flags 0 0 0 0 1 0 })) =
    ([(0x1FD, 0x32), (0x1FE, 0x02), (0x1FF, 0x03), (0xFFFF, 0xFF)], 0xFC, 0xFF00, flags 0 0 0 1 1 0) := by decide

/-- The example of R279. -/
theorem test_rti :
    (fun t : State => (t.p, t.pc, t.sp)) (ran [0x40] (State.putting [(0x1FD, 0x32), (0x1FE, 0x02), (0x1FF, 0x03)] { start with sp := 0xFC })) = (flags 0 0 0 0 1 0, 0x0302, 0xFF) := by decide

/-- R290, vector V7.16. -/
theorem test_illegal :
    ran [0x02] { start with a := 0x11 } = { start with a := 0x11, halted := true, mem := [(0x300, 0x02)] } := by decide

/-! ### Open parameters, one value each, and the peripherals -/

/-- The parameters with the first value of each. -/
def firstParams : Params := ⟨.halt, .wrap16, .wrapZp, .draw, .draw, .zero, .none⟩

/-- Vectors V1.8 and V1.9: `LDA $FFFF,X` with X = 2. -/
theorem test_addr_overflow :
    effAddr firstParams (.absX 0xFFFF) { start with x := 2 } = (0x0001, { start with x := 2 }) ∧
    (effAddr { firstParams with addrOverflow := .busOutOfRange } (.absX 0xFFFF) { start with x := 2 }).1 = 0x10001 ∧
    (busRead 0x10001 start).2.trace = [.error .badAddress] := by decide

/-- Vectors V1.16 and V1.17: `LDA ($FF)`. -/
theorem test_zp_pointer_wrap :
    (effAddr firstParams (.indZp 0xFF) (State.putting [(0x0000, 0x30)] start)).1 = 0x3000 ∧
    (effAddr { firstParams with zpPtrWrap := .linear } (.indZp 0xFF) (State.putting [(0x0100, 0x40)] start)).1 = 0x4000 := by decide

/-- Vectors V3.12 and V3.16: A and C. -/
theorem test_decimal :
    ((adcDecimal firstParams 0 0x05 0x05 (flags 0 0 1 0 0 0)).1, (adcDecimal firstParams 0 0x05 0x05 (flags 0 0 1 0 0 0)).2.c,
      (sbcDecimal firstParams 0 0x00 0x01 (flags 0 0 1 0 0 1)).1, (sbcDecimal firstParams 0 0x00 0x01 (flags 0 0 1 0 0 1)).2.c) =
    (0x10, false, 0x99, false) := by decide

/-- Vector V3.15: `0x49 + 0x01` in decimal mode under `fromResult`. -/
theorem test_decimal_from_result :
    adcDecimal { firstParams with decimalFlags := .fromResult } 0 0x49 0x01 (flags 0 0 1 0 0 0) =
    (0x50, flags 0 0 1 0 0 0) := by decide

/-- R177, `formula`: `dec(0x0F) = 15`. -/
theorem test_decimal_invalid_formula :
    (adcDecimal { firstParams with decimalInvalid := .formula } 0 0x0F 0x01 (flags 0 0 1 0 0 0)).1 = 0x16 := by decide

/-- Vectors V7.12 and V7.13: the return address, and the entry with bit 4 of the pushed status 0. -/
theorem test_irq_entry :
    irqReturn firstParams 0x0300 = 0x0300 ∧ irqReturn { firstParams with irqPushOffset := .one } 0x0300 = 0x0301 ∧
    enterInterrupt firstParams 0x0300 false (State.putting [(0xFFFF, 0x05)] { start with p := flags 0 0 0 0 0 1 }) =
      { start with
        mem := [(0x1FD, 0x21), (0x1FF, 0x03), (0xFFFF, 0x05)], sp := 0xFC, pc := 0x0500, p := flags 0 0 0 1 0 1 } := by
  decide

/-- The example of R291 under `c02`: `INC A`. -/
theorem test_unsettled_inc_a :
    unsettledSlot { firstParams with unnamedC02Slot := .c02 } (modifyA incByte) { start with a := 0xFF } =
    { start with a := 0x00, p := flags 0 0 0 0 1 0 } := by decide

/-- Worked example E6: "AB" and LF, and a fourth read without a key. -/
theorem test_keyboard_queue :
    (match fillKeyBuf [0x41, 0x42, 0x0A] start with
      | .next t => (readKeys 4 t).1
      | _ => []) = [0xC1, 0xC2, 0x8D, 0x80] := by decide

/-- Worked example E7: CR is output as LF and reads back as `0x0D`. -/
theorem test_display_round_trip :
    (busWrite firstParams 0xD0F2 0x0D start).trace = [.output 0x0A] ∧
    (busRead 0xD012 (busWrite firstParams 0xD0F2 0x0D start)).1 = 0x0D := by decide

/-- R81, R78: a byte past `0xFFFF` is dropped, a bad value too. -/
theorem test_load_binary_edges :
    loadBinary firstParams [0x12, 0x34, 0x100] 0xFFFF start =
    { start with mem := [(0xFFFF, 0x12)], trace := [.error .badAddress, .error .badAddress] } := by decide

/-- Writing what an unlisted address reads as removes the entry. -/
theorem test_memory_canonical : Memory.write 5 0 [(3, 1), (5, 2), (7, 3)] = [(3, 1), (7, 3)] := by decide

/-- A word placed for the next step runs as the first instruction after reset. -/
theorem test_with_fetch_word :
    (match step (State.reset.withFetchWord 16 0x12A9) with
      | .next t => t.a
      | _ => 0) = 0x12 := by decide

/-- R360 case 3: `JMP` to itself ends the run. -/
theorem test_run_ends :
    (runToEnd 9 (State.putting [(0x300, 0x4C), (0x302, 0x03)] start)).1 = .pcStopped := by decide

/-- R125, R126, R302: the defaults refuse a zero-page pointer at `0xFF` and an address sum past `0xFFFF`. -/
theorem test_default_refusals :
    execUnder (.default .zero .none) (.ldaIndZp 0xFF) start = .refused (.unsettled .zpPtrWrap) ∧
    execUnder (.default .zero .none) (.ldaAbsX 0xFFFF) { start with x := 1 } = .refused (.unsettled .addrOverflow) ∧
    execUnder (.default .zero .none) (.jmpInd 0xFFFF) start = .refused (.unsettled .addrOverflow) := ⟨rfl, rfl, rfl⟩

/-- R360 case 2: a refusal ends a run. -/
theorem test_refused_run_ends :
    (runToEndUnder (.default .zero .none) 9 (State.putting [(0x300, 0xEA), (0x301, 0x1A)] start)).1 =
      .refused (.unsettled .unnamedC02Slot) := by decide

/-! ### Witnesses: for every statement with hypotheses a state and operands that meet them all, clause by clause -/

theorem reset_inv : State.reset.Inv := ⟨by decide, by decide⟩
theorem start_inv : start.Inv := ⟨by decide, by decide⟩

theorem witness_DecodeOfEncodeGivesTheInstruction : (Instr.illegal 0xFF).wf = true ∧ (Instr.jsr 0xFFFF).wf = true := by decide

theorem witness_EncodeOfDecodeGivesTheBytes : decode [0x20, 0xFF, 0xFF, 0xEA] = .ok (.jsr 0xFFFF, [0xEA]) := rfl

theorem witness_RuleEncodingsAreTheDecoder :
    (.absIndX 0, 0x7C) ∈ ruleForms .jmp ∧ (Instr.brk).op ≠ .illegal ∧ (Instr.brk).op ≠ .unsettled := by decide

theorem witness_StepRunsTheInstructionAtPc :
    start.halted = false ∧
    decode [start.mem.read start.pc.toNat, start.mem.read (start.pc + 1).toNat, start.mem.read (start.pc + 2).toNat] =
      .ok (.brk, [0, 0]) ∧
    ∀ k : Nat, k < (encode .brk).length →
      1 < (start.pc + BitVec.ofNat 16 k).toNat ∧ isRam (start.pc + BitVec.ofNat 16 k).toNat = true := by
  refine ⟨rfl, rfl, fun k hk => ?_⟩
  obtain rfl : k = 0 := by simpa [encode, Instr.operand, Operand.bytes] using hk
  decide

/-- The last three bytes of plain RAM below the window. -/
theorem witness_StepRunsTheInstructionAtPc_edge :
    ∀ k : Nat, k < (encode (.jsr 0)).length →
      1 < ((0xCFFD : Word) + BitVec.ofNat 16 k).toNat ∧ isRam ((0xCFFD : Word) + BitVec.ofNat 16 k).toNat = true := by
  have h : (encode (.jsr 0)).length = 3 := rfl
  rw [h]
  decide

theorem witness_HaltedEngineDoesNothing : { start with halted := true }.halted = true := rfl

theorem witness_IllegalOpcodeOnlyHalts :
    start.halted = false ∧ (busRead (State.putting [(0x300, 0x02)] start).pc.toNat (State.putting [(0x300, 0x02)] start)).1 ∈ illegalSlots := by
  decide

theorem witness_OnlyIllegalOpcodesSetTheHaltFlag : exec .nop start = .next start := rfl

theorem witness_StepKeepsTheInvariant : start.Inv ∧ ∃ t, step start = .next t := ⟨start_inv, _, rfl⟩

theorem witness_HistoriesKeepTheInvariant :
    (∀ (l : Launch) (pc : Word), .construct l pc ∈ [HostOp.setKey 0x41, .step] → l.mem.wf = true) ∧ start.Inv ∧
    ∃ t, runHistory [.setKey 0x41, .step] start = .next t :=
  ⟨fun _ _ h => by simp at h, start_inv, _, rfl⟩

theorem witness_StepOnlyAppendsToTheTrace : ∃ t, step start = .next t := ⟨_, rfl⟩

/-- Two steps of an engine that runs, and a refused step: the unsettled slot of the example of R291. -/
theorem witness_BatchesCompose :
    (∃ t, runBatch 2 (State.putting [(0x300, 0xEA), (0x301, 0xEA)] start) = .next t ∧ t.pc = 0x302) ∧
    start.halted = false ∧
    stepUnder (.default .zero .none) (State.putting [(0x300, 0x1A)] start) = .refused (.unsettled .unnamedC02Slot) :=
  ⟨⟨_, rfl, rfl⟩, rfl, rfl⟩

/-- For RegistersHaveOnlyTheirWriters and FlagsHaveOnlyTheirWriters. -/
theorem witness_Writers : (Instr.txs).op ≠ .unsettled ∧ ∃ t, exec .txs start = .next t := ⟨by decide, _, rfl⟩

/-- A memory form and the accumulator form, neither of them a push. -/
theorem witness_MemoryHasOnlyItsWriters :
    (Instr.aslA).op ∈ addressedWriters ∧ (Instr.aslA).operand = .acc ∧ (Instr.aslA).op ∉ pushers ∧ Op.lda ∉ addressedWriters := by
  decide

theorem witness_AddressedWritesChangeOneByte :
    start.Inv ∧ (Instr.incAbs 0xCFFF).op ∈ addressedWriters ∧ (Instr.incAbs 0xCFFF).operand = .data (.abs 0xCFFF) ∧
    isRam 0xCFFF = true ∧ isRam 0xD000 = false ∧ ∃ t, exec (.incAbs 0xCFFF) start = .next t :=
  ⟨start_inv, by decide, rfl, by decide, by decide, _, rfl⟩

/-- The byte just below the three slots that BRK fills. -/
theorem witness_PushesChangeOnlyTheirStackSlots :
    start.Inv ∧ (Instr.brk).op ∈ pushers ∧ (0x01FC ≠ stackAddr start.sp ∧ 0x01FC ≠ stackAddr (start.sp - 1) ∧
    0x01FC ≠ stackAddr (start.sp - 2)) ∧ ∃ t, exec .brk start = .next t :=
  ⟨start_inv, by decide, by decide, _, rfl⟩

/-- The boundaries of the address map; each address falls under one clause. -/
theorem witness_BusReadFollowsTheAddressMap :
    (busRead 0x10000 start).2.trace = [.error .badAddress] ∧ (busRead 0xD0F2 start).2 = start ∧
    (busRead 0xD013 start).2.trace = [.warn .dspStatusRead] ∧ (busRead 0xD014 start).2.trace = [.error .unknownIO] ∧
    (busRead 0xDFFF start).2.trace = [.error .unknownIO] ∧ (busRead 0xD000 start).2.trace = [.error .unknownIO] ∧
    (busRead 0xD00F start).2.trace = [.error .unknownIO] ∧ (busRead 1 start).2.trace = [.warn .lowAddress] ∧
    (busRead 2 start).2 = start ∧ (busRead 0xCFFF start).2 = start ∧ (busRead 0xE000 start).2 = start ∧
    (busRead 0xFFFF start).2 = start := by decide

theorem witness_BusWriteFollowsTheAddressMap :
    (busWriteChecked firstParams (-1) 0 start).trace = [.error .badAddress] ∧
    (busWriteChecked firstParams 0x10000 0xFF start).trace = [.error .badAddress] ∧
    (busWriteChecked firstParams 0xFFFF 0x100 start).trace = [.error .badValue] ∧
    (busWriteChecked firstParams 0 (-1) start).trace = [.error .badValue] ∧
    (busWriteChecked firstParams 1 0xFF start).mem = [(1, 0xFF)] ∧ (busWriteChecked firstParams 2 0xFF start).trace = [] ∧
    (busWriteChecked firstParams 0xCFFF 1 start).mem = [(0xCFFF, 1)] ∧ (busWriteChecked firstParams 0xD000 1 start).mem = [] ∧
    (busWriteChecked firstParams 0xDFFF 1 start).mem = [] ∧ (busWriteChecked firstParams 0xE000 1 start).mem = [(0xE000, 1)] := by
  decide

theorem witness_WindowWritesGoByTheLowDigit :
    (busWrite firstParams 0xD000 1 start).trace = [.warn .kbdWrite] ∧ (busWrite firstParams 0xDFF1 1 start).trace = [.warn .kbdWrite] ∧
    (busWrite firstParams 0xDFF2 0x41 start).trace = [.output 0x41] ∧ busWrite firstParams 0xD003 1 start = start ∧
    (busWrite firstParams 0xD004 1 start).trace = [.error .unknownIO] ∧ (busWrite firstParams 0xDFFF 1 start).trace = [.error .unknownIO] := by
  decide

/-- An active queue with one byte left, and none. -/
theorem witness_KeyboardReadsConsumeAKey :
    { start with kq := [0x41], kqActive := true }.Inv ∧ start.Inv ∧ start.kqActive = false :=
  ⟨⟨by decide, by decide⟩, start_inv, rfl⟩

theorem witness_FilledQueueIsReadInOrder :
    (∃ ch ∈ [0x41, 0x100], 0xFF < ch) ∧ ∀ ch ∈ [0x0A, 0xFF], ch ≤ 0xFF := by decide

theorem witness_RamReadsReturnTheLastWrite : start.Inv ∧ isRam 0 = true ∧ isRam 0xFFFF = true :=
  ⟨start_inv, by decide, by decide⟩

theorem witness_RepeatedReadsAgree : (0xD00F : Nat) ≠ 0xD010 ∧ (0xD011 : Nat) ≠ 0xD010 := by decide

theorem witness_LoadedBytesReadBack :
    start.Inv ∧ 0xCFFE + [(1 : Byte), 2].length ≤ 0xD000 ∧ (0xE000 ≤ 0xFFFE ∧ 0xFFFE + [(1 : Byte), 2].length ≤ 0x10000) ∧
    (0xFFFF : Int) < 0x10000 :=
  ⟨start_inv, by decide, by decide, by decide⟩

/-- An instruction of each operation that a statement takes as a hypothesis. -/
theorem witness_Operations :
    (Instr.ldaIndZp 0xFF).op = .lda ∧ (Instr.ldxZpY 0xFF).op = .ldx ∧ (Instr.ldyAbsX 0xFFFF).op = .ldy ∧
    (Instr.staIndY 0xFF).op = .sta ∧ (Instr.stxZpY 0).op = .stx ∧ (Instr.styZpX 0).op = .sty ∧
    (Instr.cpyAbs 0).op ∈ [Op.cmp, .cpx, .cpy] ∧ (Instr.decAbsX 0).op = .dec ∧ (Instr.incZp 0).op = .inc ∧
    (Instr.eorImm 0).op ∈ [Op.and, .ora, .eor] ∧ (Instr.bitZp 0).op = .bit ∧ (Instr.trbAbs 0).op = .trb ∧ (Instr.tsbZp 0).op = .tsb ∧
    (Instr.bra 0x80).op ∈ [Op.bpl, .bmi, .bvc, .bvs, .bcc, .bcs, .bne, .beq, .bra] ∧ (Instr.jmpAbsIndX 0xFFFF).op = .jmp ∧
    (Instr.unsettledPhx).op = .unsettled := by decide

/-- Both clauses of the shifts. -/
theorem witness_ShiftsAndRotates :
    (Instr.rorA).op ∈ [Op.asl, .lsr, .rol, .ror] ∧ (Instr.rorA).operand = .acc ∧
    (Instr.rolAbsX 0xFFFF).op ∈ [Op.asl, .lsr, .rol, .ror] ∧ (Instr.rolAbsX 0xFFFF).operand = .data (.absX 0xFFFF) := by decide

theorem witness_BinaryAddAndSubtract :
    start.p.d = false ∧ (Instr.adcIndZp 0).op = .adc ∧ (Instr.sbcAbsY 0).op = .sbc := by decide

/-- Valid BCD at its largest, and a byte just beyond it. -/
theorem witness_Decimal :
    { start with p := flags 0 0 1 0 0 0 }.p.d = true ∧ IsBcd 0x99 ∧ IsBcd 0x00 ∧ ¬ IsBcd 0x9A ∧ ¬ IsBcd 0xA0 := by
  unfold IsBcd
  decide

theorem witness_BcdHelpersAndRoundTrip : (99 : Nat) < 100 ∧ bcdValid 0x99 = true ∧ bcdValid 0x9A = false := by decide

theorem witness_PullUndoesPush : start.Inv := start_inv

theorem witness_ReturnResumesAfterTheCall :
    start.Inv ∧ ∃ t v, exec (.jsr 0x1234) start = .next t ∧ exec .rts t = .next v := ⟨start_inv, _, _, rfl, rfl⟩

theorem witness_ReturnResumesAfterTheBreak :
    start.Inv ∧ ∃ t v, exec .brk start = .next t ∧ exec .rti t = .next v := ⟨start_inv, _, _, rfl, rfl⟩

theorem witness_HardwareInterruptEntry : { start with p := flags 0 0 0 1 0 0 }.p.i = true ∧ start.p.i = false := by decide

/-- Each clause at a boundary: a slot, a pointer at `0xFF`, the first sum past the top and the last below it, and parameters that a
setting with refusals allows. -/
theorem witness_SettingsRefuseTheOpenPointsAlone :
    (Instr.unsettledPhx).op = .unsettled ∧ (Instr.ldaIndY 0xFF).op ≠ .unsettled ∧ PointerAtTop (.ldaIndY 0xFF) start ∧
    (¬ PointerAtTop (.ldaAbsX 0xFFFF) { start with x := 1 } ∧ SumPastTop (.ldaAbsX 0xFFFF) { start with x := 1 }) ∧
    (¬ PointerAtTop (.jmpAbsIndX 0xFFFE) start ∧ ¬ SumPastTop (.jmpAbsIndX 0xFFFE) start) ∧
    Allows (.default .zero .none) firstParams ∧
    (∃ t, execUnder (.default .zero .none) .nop start = .next t) ∧ ∃ t, stepUnder (.default .zero .none) start = .next t := by
  refine ⟨rfl, by decide, ?_, ⟨id, ?_⟩, ⟨id, ?_⟩, ?_, ⟨_, rfl⟩, ⟨_, rfl⟩⟩
  · show (0xFF : Byte).toNat = 255
    rfl
  · show 0xFFFF < (0xFFFF : Word).toNat + (1 : Byte).toNat
    decide
  · show ¬ 0xFFFF ≤ (0xFFFE : Word).toNat + (0 : Byte).toNat
    decide
  · exact ⟨.inl rfl, .inl rfl, .inl rfl, rfl, rfl, rfl, rfl⟩

end Sys2Proof.Tests
end

section
/-! Instructions that read one operand byte (R138): the byte that `operandOf` names is the one that `exec` uses. Settles
`LoadsCopyTheOperand` and `LogicalOperations`. -/

namespace Sys2Proof.Machine

/-- Every instruction but an illegal opcode and an unsettled slot has a mode and an opcode byte of its rule. -/
theorem hasRuleForm_of_settled {i : Instr} (hill : i.op ≠ .illegal) (huns : i.op ≠ .unsettled) : HasRuleForm i := by
  unfold HasRuleForm
  cases i with
  | illegal => exact absurd rfl hill
  | unsettledIncA | unsettledDecA | unsettledPhx | unsettledPhy | unsettledPlx | unsettledPly | unsettledStzZp | unsettledStzZpX
  | unsettledStzAbs | unsettledStzAbsX | unsettledBitZpX | unsettledBitAbsX | unsettledBitImm => exact absurd rfl huns
  | _ => exact List.mem_of_elem_eq_true rfl

/-- R14: the two readings of `setNZ` agree. -/
theorem Flags.setNZ_eq_withNZ (v : Byte) (p : Flags) : p.setNZ v = withNZ v p := by
  have hz : (v == 0) = decide (v.toNat = 0) := by
    rw [Bool.eq_iff_iff]
    simp [← BitVec.toNat_inj]
  have hn : v.getLsbD 7 = decide (0x80 ≤ v.toNat) := BitVec.msb_eq_decide v
  simp only [Flags.setNZ, withNZ, hz, hn]

theorem operandOf_imm {i : Instr} {v : Byte} (h : i.operand = .imm v) (s : State) : operandOf i s = some (v, s) := by
  simp [operandOf, h, Operand.read?, loadOperand]

theorem operandOf_data {i : Instr} {m : DataMode} (h : i.operand = .data m) (s : State) :
    operandOf i s = some (busRead (effAddr Config.params m s).1 (effAddr Config.params m s).2) := by
  simp [operandOf, h, Operand.read?, loadOperand]

@[simp] theorem read?_asOperand (o : ReadOperand) : (asOperand o).read? = some o := by cases o <;> rfl

/-- An instruction whose operation reads an operand byte has a read operand, and `exec` performs its meaning on it. -/
theorem exec_of_readMeaning {i : Instr} {f : Params → ReadOperand → State → State} (h : readMeaning i.op = some f) (s : State) :
    ∃ o, i.operand.read? = some o ∧ exec i s = .next (f Config.params o s) := by
  obtain ⟨t, ht, he⟩ := exec_effect i s
  rw [ht]
  generalize i.op = op, i.operand = operand at h he ⊢
  cases he with
  | read op o hf =>
    obtain rfl : f = _ := Option.some.inj (h.symm.trans hf)
    exact ⟨o, read?_asOperand o, rfl⟩
  | store op m hr => cases op <;> simp [readMeaning, storedRegister] at h hr
  | modify op m hf => cases op <;> simp [readMeaning, modifier] at h hf
  | modifyA op _ hf => cases op <;> simp [readMeaning, modifier] at h hf
  | register op hf => cases op <;> simp [readMeaning, registerMeaning] at h hf
  | branch op d hop => cases op <;> simp [readMeaning] at h hop
  | jmpAbs | jmpInd | jmpAbsIndX | pha | php | pla | plp | jsr | rts | brk | rti | illegal | unsettled =>
    simp [readMeaning] at h

/-- What every operation on an operand byte does: it reads the byte, which changes nothing but the keyboard and the trace, and
then `g` makes the next state of the byte and the state after the read. -/
theorem exec_of_withOperand {i : Instr} {g : Params → Byte → State → State}
    (h : readMeaning i.op = some fun c o => withOperand c o (g c)) (s : State) :
    ∃ m t, operandOf i s = some (m, t) ∧ ReadFrame s t ∧ exec i s = .next (g Config.params m t) := by
  obtain ⟨o, ho, he⟩ := exec_of_readMeaning h s
  exact ⟨_, _, by rw [operandOf, ho]; rfl, loadOperand_frame Config.params s o, he⟩

/-- A read operation that puts a result of A and the byte into a register and sets N and Z of it. -/
theorem exec_of_result {i : Instr} {put : Byte → State → State} {f : Byte → Byte → Byte} (hput : ∀ v u, (put v u).p = u.p)
    (h : readMeaning i.op = some fun c o => withOperand c o fun v u => (put (f u.a v) u).setNZ (f u.a v)) (s : State) :
    HasRuleForm i ∧ ∃ m t, operandOf i s = some (m, t) ∧
      exec i s = .next ((put (f s.a m) t).setP (withNZ (f s.a m) s.p)) := by
  have hform : HasRuleForm i :=
    hasRuleForm_of_settled (fun hop => by simp [hop, readMeaning] at h) (fun hop => by simp [hop, readMeaning] at h)
  obtain ⟨m, t, hm, ht, he⟩ := exec_of_withOperand h s
  exact ⟨hform, m, t, hm, by simp only [he, State.setNZ, Flags.setNZ_eq_withNZ, hput, ht.a, ht.p]⟩

end Sys2Proof.Machine

open Sys2Proof Sys2Proof.Machine

/-- Settles O33: each load is `exec_of_result` with the byte itself as the result and its register as the target. -/
theorem loadsCopyTheOperand : Obligations.LoadsCopyTheOperand := by
  unfold Obligations.LoadsCopyTheOperand
  refine ⟨fun c v m s => ⟨rfl, rfl⟩, fun i s => ⟨fun v h => operandOf_imm h s, fun m h => operandOf_data h s⟩, fun i s => ?_⟩
  refine ⟨fun h => ?_, fun h => ?_, fun h => ?_⟩
  · exact exec_of_result (put := State.setA) (f := fun _ m => m) (fun _ _ => rfl) (by rw [h]; rfl) s
  · exact exec_of_result (put := State.setX) (f := fun _ m => m) (fun _ _ => rfl) (by rw [h]; rfl) s
  · exact exec_of_result (put := State.setY) (f := fun _ m => m) (fun _ _ => rfl) (by rw [h]; rfl) s

/-- Settles O43: each operation is `exec_of_result` with A as the target. -/
theorem logicalOperations : Obligations.LogicalOperations := by
  unfold Obligations.LogicalOperations
  intro i s h
  simp only [List.mem_cons, List.not_mem_nil, or_false] at h
  rcases h with h | h | h <;> simp only [h, reduceCtorEq, if_true, if_false]
  · exact exec_of_result (put := State.setA) (f := (· &&& ·)) (fun _ _ => rfl) (by rw [h]; rfl) s
  · exact exec_of_result (put := State.setA) (f := (· ||| ·)) (fun _ _ => rfl) (by rw [h]; rfl) s
  · exact exec_of_result (put := State.setA) (f := (· ^^^ ·)) (fun _ _ => rfl) (by rw [h]; rfl) s

end

section
/-! Which unsettled points an instruction reaches first, in the plain arithmetic of `PointerAtTop` and `SumPastTop` (R302). -/

namespace Sys2Proof.Machine

/-- Reading a byte of the zero page, or the byte after it, gives what memory holds there. -/
theorem busRead_low {a : Nat} (h : a ≤ 0x100) (s : State) : (busRead a s).1 = s.mem.read a := by
  have hw : inWindow a = false := by simp [inWindow]; omega
  simp [busRead, hw, show ¬ 0xFFFF < a by omega]

theorem zpSucc_of_ne {p : Byte} (h : p ≠ 0xFF) (c : Params) : zpSucc c p = p.toNat + 1 := if_neg h

/-- R126: the word of a zero-page pointer that is not at `0xFF`. -/
theorem zpPointer_toNat {p : Byte} (h : p ≠ 0xFF) (c : Params) (s : State) :
    (zpPointer c p s).1.toNat = (s.mem.read p.toNat).toNat + 256 * (s.mem.read (p.toNat + 1)).toNat := by
  have hp := p.isLt
  rw [zpPointer, wordOf_toNat, zpSucc_of_ne h, busRead_low (by omega), busRead_low (by omega), busRead_mem, Nat.add_comm]

theorem head?_pointsOfPointer (p : Byte) :
    (pointsOfPointer p).head? = if p.toNat = 255 then some .zpPtrWrap else none := by
  have hp : p = 0xFF ↔ p.toNat = 255 := BitVec.toNat_inj.symm
  simp only [pointsOfPointer, hp]
  split <;> rfl

theorem head?_pointsOfSum (n : Nat) : (pointsOfSum n).head? = if 0xFFFF < n then some .addrOverflow else none := by
  by_cases h : n ≤ 0xFFFF
  · simp [pointsOfSum, h, Nat.not_lt.mpr h]
  · simp [pointsOfSum, h, Nat.not_le.mp h]

/-- R136: the sum that points at the pointer, and then the address of the pointer's high byte. -/
theorem head?_pointsOfSum_or (c : Params) (n : Nat) :
    (pointsOfSum n).head?.or (pointsOfSum (overflowAddr c n + 1)).head? =
      if 0xFFFF ≤ n then some .addrOverflow else none := by
  rw [head?_pointsOfSum, head?_pointsOfSum]
  by_cases hn : n ≤ 0xFFFF
  · have hsucc : 0xFFFF < n + 1 ↔ 0xFFFF ≤ n := by omega
    simp only [overflowAddr, hn, if_true, Nat.not_lt.mpr hn, if_false, hsucc, Option.none_or]
  · simp [Nat.not_le.mp hn, Nat.le_of_not_le hn]

open Classical in
/-- R302: the first point that resolving an operand reaches. -/
theorem head?_operandPoints (c : Params) (i : Instr) (s : State) : (operandPoints c i.operand s).head? =
    if PointerAtTop i s then some .zpPtrWrap else if SumPastTop i s then some .addrOverflow else none := by
  unfold PointerAtTop SumPastTop
  cases i.operand with
  | implied | acc | imm | rel => simp [operandPoints]
  | ind w =>
    have hw : 0xFFFF < w.toNat + 1 ↔ w.toNat = 0xFFFF := by have := w.isLt; omega
    simp [operandPoints, head?_pointsOfSum, hw]
  | absIndX w => simp [operandPoints, head?_pointsOfSum_or]
  | data m =>
    cases m with
    | zp | zpX | zpY | abs => simp [operandPoints]
    | absX | absY => simp [operandPoints, head?_pointsOfSum]
    | indX | indZp => simp [operandPoints, head?_pointsOfPointer]
    | indY b =>
      simp only [operandPoints, List.head?_append, head?_pointsOfPointer, head?_pointsOfSum]
      by_cases hb : b.toNat = 255
      · simp [hb]
      · have hne : b ≠ 0xFF := fun h => hb (h ▸ rfl)
        simp [hb, zpPointer_toNat hne]

/-- Under the default parameters every point refuses. -/
theorem find?_refuses_default (o : IrqPushOffset) (w : Wr13Event) (l : List Unsettled) :
    l.find? (Setting.default o w).refuses = l.head? := by
  cases l <;> simp

theorem instrPoints_of_settled {i : Instr} (h : i.op ≠ .unsettled) (c : Params) (s : State) :
    instrPoints c i s = operandPoints c i.operand s := if_neg h

theorem mem_instrPoints_of_unsettled {i : Instr} (h : i.op = .unsettled) (c : Params) (s : State) :
    .unnamedC02Slot ∈ instrPoints c i s := by simp [instrPoints, h]

/-- Under the default parameters a settled instruction is refused at the first point of its operand. -/
theorem execUnder_default_refused {i : Instr} {s : State} {u : Unsettled} {o : IrqPushOffset} {w : Wr13Event}
    (h : i.op ≠ .unsettled)
    (hu : (operandPoints ((Setting.default o w).fill Config.params) i.operand s).head? = some u) :
    execUnder (.default o w) i s = .refused (.unsettled u) :=
  execUnder_refused (by rw [find?_refuses_default, instrPoints_of_settled h, hu])

end Sys2Proof.Machine
end

section
/-! Two parameter records that agree at the points an instruction reaches perform it alike. -/

namespace Sys2Proof.Machine

/-- The two parameter records settle the point alike. -/
def AgreeAt (c d : Params) : Unsettled → Prop
  | .unnamedC02Slot => c.unnamedC02Slot = d.unnamedC02Slot
  | .addrOverflow => c.addrOverflow = d.addrOverflow
  | .zpPtrWrap => c.zpPtrWrap = d.zpPtrWrap

/-- The two parameter records agree at every point of the list, and at every parameter that an instruction may use and that no
setting leaves unsettled. -/
structure AgreeOn (c d : Params) (l : List Unsettled) : Prop where
  points : ∀ u ∈ l, AgreeAt c d u
  decimalFlags : c.decimalFlags = d.decimalFlags
  decimalInvalid : c.decimalInvalid = d.decimalInvalid
  wr13Event : c.wr13Event = d.wr13Event

theorem AgreeOn.mono {c d : Params} {l k : List Unsettled} (h : AgreeOn c d l) (hk : ∀ u ∈ k, u ∈ l) : AgreeOn c d k :=
  ⟨fun u hu => h.points u (hk u hu), h.decimalFlags, h.decimalInvalid, h.wr13Event⟩

theorem AgreeOn.left {c d : Params} {l k : List Unsettled} (h : AgreeOn c d (l ++ k)) : AgreeOn c d l :=
  h.mono fun _ => List.mem_append_left k

theorem AgreeOn.right {c d : Params} {l k : List Unsettled} (h : AgreeOn c d (l ++ k)) : AgreeOn c d k :=
  h.mono fun _ => List.mem_append_right l

variable {c d : Params} {s : State}

/-! ### The bus and the addressing modes -/

theorem AgreeOn.busWrite_eq {l : List Unsettled} (h : AgreeOn c d l) (a : Nat) (v : Byte) (s : State) :
    busWrite c a v s = busWrite d a v s := by
  simp only [busWrite, periphWrite, dspStatusWrite, h.wr13Event]

theorem AgreeOn.overflowAddr_eq {n : Nat} (h : AgreeOn c d (pointsOfSum n)) : overflowAddr c n = overflowAddr d n := by
  by_cases hn : n ≤ 0xFFFF
  · simp only [overflowAddr, hn, if_true]
  · have ha : c.addrOverflow = d.addrOverflow := h.points .addrOverflow (by simp [pointsOfSum, hn])
    simp only [overflowAddr, ha]

theorem AgreeOn.zpPointer_eq {p : Byte} (h : AgreeOn c d (pointsOfPointer p)) (s : State) :
    zpPointer c p s = zpPointer d p s := by
  have hsucc : zpSucc c p = zpSucc d p := by
    by_cases hp : p = 0xFF
    · have hz : c.zpPtrWrap = d.zpPtrWrap := h.points .zpPtrWrap (by simp [pointsOfPointer, hp])
      simp only [zpSucc, hz]
    · rw [zpSucc_of_ne hp, zpSucc_of_ne hp]
  simp only [zpPointer, hsucc]

theorem AgreeOn.effAddr_eq {m : DataMode} (h : AgreeOn c d (operandPoints c (.data m) s)) :
    effAddr c m s = effAddr d m s := by
  cases m with
  | zp | zpX | zpY | abs => rfl
  | absX | absY => simp only [effAddr, h.overflowAddr_eq]
  | indX | indZp => simp only [effAddr, h.zpPointer_eq]
  | indY b => simp only [effAddr, ← h.left.zpPointer_eq, h.right.overflowAddr_eq]

theorem AgreeOn.withOperand_eq {o : ReadOperand} (h : AgreeOn c d (operandPoints c (asOperand o) s)) (f : Byte → State → State) :
    withOperand c o f s = withOperand d o f s := by
  cases o with
  | imm => rfl
  | data m => simp only [withOperand, loadOperand, h.effAddr_eq]

theorem AgreeOn.bitA_eq {o : ReadOperand} (h : AgreeOn c d (operandPoints c (asOperand o) s)) : bitA c o s = bitA d o s :=
  h.withOperand_eq _

theorem AgreeOn.store_eq {m : DataMode} (h : AgreeOn c d (operandPoints c (.data m) s)) (v : Byte) :
    store c m v s = store d m v s := by
  simp only [store, h.effAddr_eq, h.busWrite_eq]

theorem AgreeOn.modify_eq {m : DataMode} (h : AgreeOn c d (operandPoints c (.data m) s)) (f : Byte → Flags → Byte × Flags) :
    modify c m f s = modify d m f s := by
  simp only [modify, h.effAddr_eq, h.busWrite_eq]

theorem AgreeOn.jumpThrough_eq {a : Nat} (h : AgreeOn c d (pointsOfSum (a + 1))) (s : State) :
    jumpThrough c a s = jumpThrough d a s := by
  simp only [jumpThrough, read16, h.overflowAddr_eq]

/-! ### What reaches no point -/

variable (c d s)

/-- The stack page is RAM, so a push does not depend on the parameters. -/
theorem push_params (v : Byte) : push c v s = push d v s := by rw [push_eq, push_eq]

theorem jumpSubroutine_params (w : Word) : jumpSubroutine c w s = jumpSubroutine d w s := by
  simp only [jumpSubroutine, push16_eq]

theorem enterInterrupt_params (ret : Word) (b : Bool) : enterInterrupt c ret b s = enterInterrupt d ret b s := by
  simp only [enterInterrupt_eq, push16_eq, push_eq]

variable {c d s}

theorem AgreeOn.decimalResult_eq {l : List Unsettled} (h : AgreeOn c d l) : decimalResult c = decimalResult d := by
  funext k a m r p
  simp only [decimalResult, h.decimalFlags, h.decimalInvalid]

theorem AgreeOn.adcByte_eq {l : List Unsettled} (h : AgreeOn c d l) : adcByte c = adcByte d := by
  funext m s
  simp only [adcByte, adcDecimal, h.decimalResult_eq]

theorem AgreeOn.sbcByte_eq {l : List Unsettled} (h : AgreeOn c d l) : sbcByte c = sbcByte d := by
  funext m s
  simp only [sbcByte, sbcDecimal, h.decimalResult_eq]

/-! ### The shapes of an operation -/

variable {o : Operand}

/-- An operation that reads an operand byte and makes of it what `g` says. -/
theorem AgreeOn.readOp_eq (h : AgreeOn c d (operandPoints c o s)) {f : Params → ReadOperand → State → State}
    (g : Params → Byte → State → State) (hf : ∀ c r, f c r = withOperand c r (g c)) (hg : g c = g d) :
    readOp f c o s = readOp f d o s := by
  cases o with
  | imm v => simp only [readOp, Operand.read?, hf, hg]; rfl
  | data m => simp only [readOp, Operand.read?, hf, hg, withOperand_eq (o := .data m) h]
  | implied | acc | rel | ind | absIndX => rfl

theorem AgreeOn.storeOp_eq (h : AgreeOn c d (operandPoints c o s)) (v : Byte) : storeOp c o v s = storeOp d o v s := by
  cases o with
  | data m => exact h.store_eq v
  | implied | acc | imm | rel | ind | absIndX => rfl

theorem AgreeOn.modifyOp_eq (h : AgreeOn c d (operandPoints c o s)) (f : Byte → Flags → Byte × Flags) :
    modifyOp c o f s = modifyOp d o f s := by
  cases o with
  | data m => exact h.modify_eq f
  | implied | acc | imm | rel | ind | absIndX => rfl

theorem AgreeOn.jumpOp_eq (h : AgreeOn c d (operandPoints c o s)) : jumpOp c o s = jumpOp d o s := by
  cases o with
  | ind w => exact h.jumpThrough_eq s
  | absIndX w => exact (h.right.jumpThrough_eq s).trans (by rw [h.left.overflowAddr_eq]; rfl)
  | data m => cases m <;> rfl
  | implied | acc | imm | rel => rfl

theorem callOp_params (c d : Params) (o : Operand) (s : State) : callOp c o s = callOp d o s := by
  cases o with
  | data m =>
    cases m with
    | abs w => exact jumpSubroutine_params c d s w
    | zp | zpX | zpY | absX | absY | indX | indY | indZp => rfl
  | implied | acc | imm | rel | ind | absIndX => rfl

theorem AgreeOn.slotBody_eq {i : Instr} (h : AgreeOn c d (operandPoints c i.operand s)) : slotBody c i s = slotBody d i s := by
  cases i with
  | unsettledPhx | unsettledPhy => exact push_params c d s _
  | unsettledStzZp | unsettledStzZpX | unsettledStzAbs | unsettledStzAbsX => exact h.store_eq 0
  | unsettledBitZpX b => exact h.bitA_eq (o := .data (.zpX b))
  | unsettledBitAbsX w => exact h.bitA_eq (o := .data (.absX w))
  | _ => rfl

/-- R291: an unsettled slot. -/
theorem AgreeOn.unsettledSlot_eq {i : Instr} (hop : i.op = .unsettled) (h : AgreeOn c d (instrPoints c i s)) :
    unsettledSlot c (slotBody c i) s = unsettledSlot d (slotBody d i) s := by
  have hslot : c.unnamedC02Slot = d.unnamedC02Slot := h.points _ (mem_instrPoints_of_unsettled hop c s)
  cases hc : c.unnamedC02Slot with
  | halt => simp only [unsettledSlot, ← hslot, hc]
  | c02 =>
    have ho : AgreeOn c d (operandPoints c i.operand s) := h.mono fun u hu => by simp [instrPoints, hop, hc, hu]
    simp only [unsettledSlot, ← hslot, hc, ho.slotBody_eq]

/-- An instruction does the same under parameters that agree at the points it reaches. -/
theorem AgreeOn.perform_eq {i : Instr} (h : AgreeOn c d (instrPoints c i s)) : perform c i s = perform d i s := by
  by_cases hop : i.op = .unsettled
  · simpa only [perform, hop] using h.unsettledSlot_eq hop
  rw [instrPoints_of_settled hop] at h
  unfold perform
  cases hi : i.op with
  | lda | ldx | ldy | cmp | cpx | cpy | and | ora | eor | bit => exact h.readOp_eq _ (fun _ _ => rfl) rfl
  | adc => exact h.readOp_eq adcByte (fun _ _ => rfl) h.adcByte_eq
  | sbc => exact h.readOp_eq sbcByte (fun _ _ => rfl) h.sbcByte_eq
  | sta | stx | sty => exact h.storeOp_eq _
  | inc | dec | asl | lsr | rol | ror | tsb | trb => exact h.modifyOp_eq _
  | jmp => exact h.jumpOp_eq
  | jsr => exact callOp_params c d _ s
  | pha | php => exact push_params c d s _
  | brk => exact enterInterrupt_params c d s _ _
  | unsettled => exact absurd hi hop
  | tax | tay | txa | tya | tsx | txs | inx | iny | dex | dey | bpl | bmi | bvc | bvs | bcc | bcs | bne | beq | bra | pla | plp
  | rts | clc | sec | cli | sei | cld | sed | clv | nop | rti | illegal => rfl

end Sys2Proof.Machine
end

section
/-! Instructions and steps under a setting and under the parameters it allows. -/

namespace Sys2Proof

/-- A behaviour that a setting gives is the one of the parameters it allows. -/
theorem Open.getD_of_settled {α : Type} [DecidableEq α] {o : Open α} {v : α} (h : o = .refuse ∨ o = .settled v)
    (hr : (o == .refuse) = false) (e : α) : o.getD e = v := by
  rcases h with rfl | rfl
  · simp at hr
  · rfl

end Sys2Proof

namespace Sys2Proof.Machine

theorem execUnder_ofParams (d : Params) (i : Instr) (s : State) : execUnder (.ofParams d) i s = .next (perform d i s) := by
  simpa using execUnder_next (g := .ofParams d) (i := i) (s := s) (by simp)

theorem stepUnder_ofParams (s : State) : stepUnder (.ofParams Config.params) s = step s := by
  simp only [stepUnder, step, execUnder_ofParams, exec_eq_perform, Setting.fill_ofParams]

/-- The parameters of a setting, filled in where it leaves them open, agree with those it allows at every point it does not refuse. -/
theorem Allows.agreeOn {g : Setting} {d : Params} (h : Allows g d) {l : List Unsettled} (hl : ∀ u ∈ l, g.refuses u = false)
    (e : Params) : AgreeOn (g.fill e) d l := by
  obtain ⟨hslot, haddr, hptr, hflags, hinvalid, -, hwr⟩ := h
  refine ⟨fun u hu => ?_, hflags.symm, hinvalid.symm, hwr.symm⟩
  have hr := hl u hu
  cases u with
  | unnamedC02Slot => exact Open.getD_of_settled hslot hr _
  | addrOverflow => exact Open.getD_of_settled haddr hr _
  | zpPtrWrap => exact Open.getD_of_settled hptr hr _

/-- An instruction that is not refused reaches no point that the setting leaves unsettled. -/
theorem points_of_execUnder_next {g : Setting} {i : Instr} {s t : State} (h : execUnder g i s = .next t) :
    t = perform (g.fill Config.params) i s ∧ ∀ u ∈ instrPoints (g.fill Config.params) i s, g.refuses u = false := by
  rcases execUnder_cases g i s with ⟨hn, hr⟩ | ⟨u, -, -, hu⟩
  · rw [hn] at h
    cases h
    exact ⟨rfl, hr⟩
  · rw [hu] at h
    cases h

theorem execUnder_of_allows {g : Setting} {d : Params} (ha : Allows g d) {i : Instr} {s t : State}
    (h : execUnder g i s = .next t) : execUnder (.ofParams d) i s = .next t := by
  obtain ⟨rfl, hr⟩ := points_of_execUnder_next h
  rw [execUnder_ofParams, (ha.agreeOn hr Config.params).perform_eq]

/-- R110: the operation of an instruction is known from its opcode byte alone. -/
theorem decodeOpcode_op (op b1 b2 c1 c2 : Byte) : (decodeOpcode op b1 b2).op = (decodeOpcode op c1 c2).op := by
  simp only [decodeOpcode, decodeRow0, decodeRow1, decodeRow2, decodeRow3, decodeRow4, decodeRow5, decodeRow6, decodeRow7,
    decodeRow8, decodeRow9, decodeRowA, decodeRowB, decodeRowC, decodeRowD, decodeRowE, decodeRowF]
  generalize wordOf b2 b1 = v, wordOf c2 c1 = w
  split <;> split <;> rfl

/-- How many operand bytes are fetched depends on the parameters for an unsettled slot alone. -/
theorem operandsFetched_eq {c d : Params} {op : Byte}
    (h : (decodeOpcode op 0 0).op = .unsettled → c.unnamedC02Slot = d.unnamedC02Slot) :
    operandsFetched c op = operandsFetched d op := by
  unfold operandsFetched
  cases hop : (decodeOpcode op 0 0).op with
  | unsettled => simp only [h hop]
  | _ => rfl

theorem fetchInstr_eq {c d : Params} {s : State}
    (h : (fetchInstr c s).1.op = .unsettled → c.unnamedC02Slot = d.unnamedC02Slot) : fetchInstr c s = fetchInstr d s := by
  have ho : operandsFetched c (busRead s.pc.toNat s).1 = operandsFetched d (busRead s.pc.toNat s).1 :=
    operandsFetched_eq fun hop => h ((decodeOpcode_op _ _ _ _ _).trans hop)
  simp only [fetchInstr, ho]

theorem stepUnder_of_allows {g : Setting} {d : Params} (ha : Allows g d) {s t : State} (h : stepUnder g s = .next t) :
    stepUnder (.ofParams d) s = .next t := by
  by_cases hs : s.halted = true
  · simpa [hs] using h
  simp only [stepUnder, hs, Bool.false_eq_true, if_false] at h ⊢
  have hf : fetchInstr (g.fill Config.params) s = fetchInstr d s := fetchInstr_eq fun hop =>
    (ha.agreeOn (points_of_execUnder_next h).2 Config.params).points _ (mem_instrPoints_of_unsettled hop _ _)
  rw [Setting.fill_ofParams, ← hf]
  exact execUnder_of_allows ha h

end Sys2Proof.Machine

open Sys2Proof Sys2Proof.Machine

/-- Settles O60: under the defaults the first point of the operand decides, and what is not refused has reached no point at which the
setting and the parameters it allows differ. -/
theorem settingsRefuseTheOpenPointsAlone : Obligations.SettingsRefuseTheOpenPointsAlone := by
  unfold Obligations.SettingsRefuseTheOpenPointsAlone
  refine ⟨fun i s => ⟨?_, stepUnder_ofParams s⟩, fun o w i s => ⟨fun hop => ?_, fun hop hp => ?_, fun hop hp hs => ?_,
    fun hop hp hs => ?_⟩, fun g d s t ha => ⟨fun i => execUnder_of_allows ha, stepUnder_of_allows ha⟩⟩
  · rw [execUnder_ofParams, exec_eq_perform]
  · exact execUnder_refused (by simp [instrPoints, hop])
  · exact execUnder_default_refused hop (by simp [head?_operandPoints, hp])
  · exact execUnder_default_refused hop (by simp [head?_operandPoints, hp, hs])
  · have hnil : operandPoints ((Setting.default o w).fill Config.params) i.operand s = [] := by
      simpa [hp, hs] using head?_operandPoints ((Setting.default o w).fill Config.params) i s
    exact ⟨_, execUnder_next (by simp [instrPoints_of_settled hop, hnil])⟩

end

section
/-! What each instruction leaves unchanged (R21–R37): the registers, the halt flag and the stored flags that its rules do not list.
Settles `OnlyIllegalOpcodesSetTheHaltFlag`, `RegistersHaveOnlyTheirWriters` and `FlagsHaveOnlyTheirWriters`. -/

namespace Sys2Proof.Machine

/-! ### Flags -/

@[simp] theorem Flags.setNZ_c (v : Byte) (p : Flags) : (p.setNZ v).c = p.c := rfl
@[simp] theorem Flags.setNZ_i (v : Byte) (p : Flags) : (p.setNZ v).i = p.i := rfl
@[simp] theorem Flags.setNZ_d (v : Byte) (p : Flags) : (p.setNZ v).d = p.d := rfl
@[simp] theorem Flags.setNZ_v (v : Byte) (p : Flags) : (p.setNZ v).v = p.v := rfl

/-- R27–R32: the flags `q` after an instruction `op` differ from the flags `p` before in those alone whose rule lists `op`. -/
structure FlagsKept (op : Op) (p q : Flags) : Prop where
  c : op ∉ [.adc, .sbc, .cmp, .cpx, .cpy, .asl, .lsr, .rol, .ror, .clc, .sec, .plp, .rti] → q.c = p.c
  z : op ∉ [.lda, .ldx, .ldy, .tax, .tay, .txa, .tya, .tsx, .pla, .and, .ora, .eor, .inc, .dec, .inx, .iny, .dex, .dey,
    .asl, .lsr, .rol, .ror, .adc, .sbc, .cmp, .cpx, .cpy, .bit, .trb, .tsb, .plp, .rti] → q.z = p.z
  i : op ∉ [.sei, .cli, .plp, .rti, .brk] → q.i = p.i
  d : op ∉ [.sed, .cld, .plp, .rti] → q.d = p.d
  v : op ∉ [.adc, .sbc, .bit, .clv, .plp, .rti] → q.v = p.v
  n : op ∉ [.lda, .ldx, .ldy, .tax, .tay, .txa, .tya, .tsx, .pla, .and, .ora, .eor, .inc, .dec, .inx, .iny, .dex, .dey,
    .asl, .lsr, .rol, .ror, .adc, .sbc, .cmp, .cpx, .cpy, .bit, .plp, .rti] → q.n = p.n

theorem FlagsKept.of_eq {op : Op} {p q : Flags} (h : q = p) : FlagsKept op p q := by
  constructor <;> exact fun _ => by rw [h]

theorem decimalNZV_i (f : DecimalFlags) (k : Nat) (r : Byte) (p : Flags) : (decimalNZV f k r p).i = p.i := by cases f <;> rfl
theorem decimalNZV_d (f : DecimalFlags) (k : Nat) (r : Byte) (p : Flags) : (decimalNZV f k r p).d = p.d := by cases f <;> rfl

/-- R177, R178: decimal mode leaves I and D. -/
theorem decimalResult_id (c : Params) (k : Nat) (a m : Byte) (r : Byte × Bool) (p : Flags) :
    (decimalResult c k a m r p).2.i = p.i ∧ (decimalResult c k a m r p).2.d = p.d := by
  unfold decimalResult
  split
  · exact ⟨decimalNZV_i .., decimalNZV_d ..⟩
  · cases c.decimalInvalid <;> exact ⟨decimalNZV_i .., decimalNZV_d ..⟩

/-- R171: in either mode ADC puts a byte into A and flags that keep I and D into P; decimal mode uses up free values. -/
theorem adcByte_eq_setResult (c : Params) (m : Byte) (s : State) :
    ∃ q n, adcByte c m s = (s.setResult q).useDraws n ∧ q.2.i = s.p.i ∧ q.2.d = s.p.d := by
  unfold adcByte
  split
  · exact ⟨_, _, rfl, decimalResult_id ..⟩
  · exact ⟨adcBinary s.a m s.p, 0, rfl, rfl, rfl⟩

/-- R174: SBC likewise. -/
theorem sbcByte_eq_setResult (c : Params) (m : Byte) (s : State) :
    ∃ q n, sbcByte c m s = (s.setResult q).useDraws n ∧ q.2.i = s.p.i ∧ q.2.d = s.p.d := by
  unfold sbcByte
  split
  · exact ⟨_, _, rfl, decimalResult_id ..⟩
  · exact ⟨sbcBinary s.a m s.p, 0, rfl, rfl, rfl⟩

/-- An operation that reads an operand byte writes the flags of its rule. -/
theorem flagsKept_of_readMeaning {op : Op} {f : Params → ReadOperand → State → State} (h : readMeaning op = some f) (c : Params)
    (o : ReadOperand) (s : State) : FlagsKept op s.p (f c o s).p := by
  cases op with
  | lda | ldx | ldy => cases h; constructor <;> simp [lda, ldx, ldy, withOperand]
  | and | ora | eor => cases h; constructor <;> simp [andA, oraA, eorA, withOperand]
  | cmp | cpx | cpy => cases h; constructor <;> simp [compareA, compareX, compareY, withOperand, Flags.compare]
  | bit => cases h; constructor <;> simp [bitA, withOperand, Flags.bitTest]
  | adc =>
    cases h
    obtain ⟨q, n, hq, hi, hd⟩ := adcByte_eq_setResult c (loadOperand c o s).1 (loadOperand c o s).2
    constructor <;> simp [adc, withOperand, hq, State.setResult, hi, hd]
  | sbc =>
    cases h
    obtain ⟨q, n, hq, hi, hd⟩ := sbcByte_eq_setResult c (loadOperand c o s).1 (loadOperand c o s).2
    constructor <;> simp [sbc, withOperand, hq, State.setResult, hi, hd]
  | _ => cases h

/-- A read-modify-write writes the flags of its rule, in memory and in A. -/
theorem flagsKept_of_modifier {op : Op} {f : Byte → Byte → Flags → Byte × Flags} (h : modifier op = some f) (a v : Byte) (p : Flags) :
    FlagsKept op p (f a v p).2 := by
  cases op with
  | inc | dec => cases h; constructor <;> simp [incByte, decByte]
  | asl | lsr | rol | ror => cases h; constructor <;> simp [aslByte, lsrByte, rolByte, rorByte, shiftResult]
  | tsb | trb => cases h; constructor <;> simp [tsbByte, trbByte]
  | _ => cases h

theorem flagsKept_of_registerMeaning {op : Op} {f : State → State} (h : registerMeaning op = some f) (s : State) :
    FlagsKept op s.p (f s).p := by
  cases op with
  | tax | tay | txa | tya | tsx | inx | iny | dex | dey => cases h; constructor <;> simp
  | clc | sec | cli | sei | cld | sed | clv => cases h; constructor <;> simp
  | txs | nop => cases h; exact .of_eq rfl
  | _ => cases h

theorem branch_frame (b : Bool) (d : Byte) (s : State) : ReadFrame s (branch b d s) := by
  cases b
  · exact .refl s
  · exact .setPc s _

theorem jumpThrough_frame (c : Params) (a : Nat) (s : State) : ReadFrame s (jumpThrough c a s) :=
  (read16_frame c s a).trans (.setPc _ _)

/-- Every instruction but an unsettled slot writes the flags of its rule. -/
theorem Effect.flagsKept {s t : State} {op : Op} {o : Operand} (h : Effect s op o t) (hop : op ≠ .unsettled) :
    FlagsKept op s.p t.p := by
  cases h with
  | read op o hf => exact flagsKept_of_readMeaning hf Config.params o s
  | store op m hr ht => exact .of_eq (by simp [ht, Machine.store])
  | modify op m hf ht => simpa [ht, Machine.modify] using flagsKept_of_modifier hf s.a _ s.p
  | modifyA op _ hf ht => rw [ht]; exact flagsKept_of_modifier hf s.a s.a s.p
  | register op hf ht => rw [ht]; exact flagsKept_of_registerMeaning hf s
  | branch => exact .of_eq (branch_frame ..).p
  | jmpAbs => exact .of_eq rfl
  | jmpInd | jmpAbsIndX => exact .of_eq (jumpThrough_frame ..).p
  | pha | php => exact .of_eq (by simp [push_eq])
  | jsr => exact .of_eq (by simp [jumpSubroutine, push16_eq])
  | rts => exact .of_eq (by simp [returnSubroutine, pop16_eq])
  | pla => constructor <;> simp [pullA, pop_eq]
  | brk => constructor <;> simp [enterInterrupt_eq]
  | plp | rti => constructor <;> simp
  | illegal => exact .of_eq rfl
  | unsettled => exact absurd rfl hop

/-! ### Registers and the halt flag -/

/-- R21–R25, R37: the state `t` after an instruction `op` with the operand `o` differs from the state `s` before in those registers
alone whose rule lists `op`, and in the halt flag for an illegal opcode alone. -/
structure RegistersKept (op : Op) (o : Operand) (s t : State) : Prop where
  a : op ∉ [.adc, .sbc, .and, .ora, .eor, .lda, .txa, .tya, .pla] → o ≠ .acc → t.a = s.a
  x : op ∉ [.ldx, .tax, .tsx, .inx, .dex] → t.x = s.x
  y : op ∉ [.ldy, .tay, .iny, .dey] → t.y = s.y
  sp : op ∉ [.txs, .pha, .php, .pla, .plp, .jsr, .rts, .brk, .rti] → t.sp = s.sp
  pc : op ∉ [.bpl, .bmi, .bvc, .bvs, .bcc, .bcs, .bne, .beq, .bra, .jmp, .jsr, .rts, .brk, .rti] → t.pc = s.pc
  halted : op ≠ .illegal → t.halted = s.halted

/-- What only reads and moves PC keeps every other register. -/
theorem RegistersKept.of_readFrame {op : Op} {o : Operand} {s t : State} (h : ReadFrame s t)
    (hop : op ∈ [.bpl, .bmi, .bvc, .bvs, .bcc, .bcs, .bne, .beq, .bra, .jmp, .jsr, .rts, .brk, .rti]) : RegistersKept op o s t :=
  ⟨fun _ _ => h.a, fun _ => h.x, fun _ => h.y, fun _ => h.sp, fun hn => absurd hop hn, fun _ => h.halted⟩

theorem registersKept_of_readMeaning {op : Op} {f : Params → ReadOperand → State → State} (h : readMeaning op = some f) (c : Params)
    (o : ReadOperand) (s : State) : RegistersKept op (asOperand o) s (f c o s) := by
  cases op with
  | lda | ldx | ldy => cases h; constructor <;> simp [lda, ldx, ldy, withOperand]
  | and | ora | eor => cases h; constructor <;> simp [andA, oraA, eorA, withOperand]
  | cmp | cpx | cpy | bit => cases h; constructor <;> simp [compareA, compareX, compareY, bitA, withOperand]
  | adc =>
    cases h
    obtain ⟨q, n, hq, -⟩ := adcByte_eq_setResult c (loadOperand c o s).1 (loadOperand c o s).2
    constructor <;> simp [adc, withOperand, hq, State.setResult]
  | sbc =>
    cases h
    obtain ⟨q, n, hq, -⟩ := sbcByte_eq_setResult c (loadOperand c o s).1 (loadOperand c o s).2
    constructor <;> simp [sbc, withOperand, hq, State.setResult]
  | _ => cases h

theorem registersKept_of_registerMeaning {op : Op} {f : State → State} (h : registerMeaning op = some f) (s : State) :
    RegistersKept op .implied s (f s) := by
  cases op with
  | tax | tay | txa | tya | tsx | txs | inx | iny | dex | dey => cases h; constructor <;> simp
  | clc | sec | cli | sei | cld | sed | clv | nop => cases h; constructor <;> simp
  | _ => cases h

/-- Every instruction but an unsettled slot writes the registers of its rule. -/
theorem Effect.registersKept {s t : State} {op : Op} {o : Operand} (h : Effect s op o t) (hop : op ≠ .unsettled) :
    RegistersKept op o s t := by
  cases h with
  | read op o hf => exact registersKept_of_readMeaning hf Config.params o s
  | store op m hr ht => constructor <;> simp [ht, Machine.store]
  | modify op m hf ht => constructor <;> simp [ht, Machine.modify]
  | modifyA op _ hf ht => constructor <;> simp [ht, Machine.modifyA]
  | register op hf ht => rw [ht]; exact registersKept_of_registerMeaning hf s
  | branch op d hbr => exact .of_readFrame (branch_frame ..) (List.mem_append_left _ hbr)
  | jmpAbs w => exact .of_readFrame (.setPc s w) (by decide)
  | jmpInd | jmpAbsIndX => exact .of_readFrame (jumpThrough_frame ..) (by decide)
  | pha | php => constructor <;> simp [push_eq]
  | pla | plp => constructor <;> simp [pullA, pullP, pop_eq]
  | jsr => constructor <;> simp [jumpSubroutine, push16_eq]
  | rts => constructor <;> simp [returnSubroutine, pop16_eq]
  | brk => constructor <;> simp [enterInterrupt_eq, push16_eq, push_eq]
  | rti => constructor <;> simp [returnFromInterrupt, pop16_eq, pop_eq]
  | illegal => constructor <;> simp
  | unsettled => exact absurd rfl hop

/-- R290: the one effect of an illegal opcode. -/
theorem Effect.eq_halt {s t : State} {o : Operand} (h : Effect s .illegal o t) : t = s.halt := by
  cases h with
  | illegal => rfl
  | read _ _ h | store _ _ h | modify _ _ h | modifyA _ _ h | register _ h => cases h
  | branch _ _ h => simp at h

/-- R291: the one effect of an unsettled slot. -/
theorem Effect.eq_unsettledSlot {s t : State} {o : Operand} (h : Effect s .unsettled o t) :
    ∃ f, SlotBody o f ∧ t = unsettledSlot Config.params f s := by
  cases h with
  | unsettled hf => exact ⟨_, hf, rfl⟩
  | read _ _ h | store _ _ h | modify _ _ h | modifyA _ _ h | register _ h => cases h
  | branch _ _ h => simp at h

/-- R291: no documented 65C02 instruction halts. -/
theorem SlotBody.halted {o : Operand} {f : State → State} (h : SlotBody o f) (s : State) : (f s).halted = s.halted := by
  cases h with
  | incA | decA => rfl
  | phx | phy => simp [push_eq]
  | plx | ply => simp [pullX, pullY, pop_eq]
  | stz m => simp [store]
  | bit m => simp [bitA, withOperand]
  | bitImm v => rfl

/-- R37: what makes the halt flag set. -/
theorem Effect.halted_iff {s t : State} {op : Op} {o : Operand} (h : Effect s op o t) : t.halted = true ↔
    s.halted = true ∨ op = .illegal ∨ (op = .unsettled ∧ Config.params.unnamedC02Slot = .halt) := by
  by_cases hill : op = .illegal
  · subst hill
    simp [h.eq_halt]
  by_cases huns : op = .unsettled
  · subst huns
    obtain ⟨f, hf, rfl⟩ := h.eq_unsettledSlot
    cases hslot : Config.params.unnamedC02Slot <;> simp [unsettledSlot, hslot, hf.halted s]
  · simp [(h.registersKept huns).halted hill, hill, huns]

end Sys2Proof.Machine

open Sys2Proof Sys2Proof.Machine

/-- Settles O11: only the effects of an illegal opcode and of an unsettled slot can halt, and `resetEngine` clears the flag. -/
theorem onlyIllegalOpcodesSetTheHaltFlag : Obligations.OnlyIllegalOpcodesSetTheHaltFlag :=
  ⟨fun _ _ _ h => (effect_of_exec h).halted_iff, fun _ _ _ => rfl⟩

/-- Settles O17: `RegistersKept` holds of every shape of an effect but an unsettled slot's. -/
theorem registersHaveOnlyTheirWriters : Obligations.RegistersHaveOnlyTheirWriters := by
  unfold Obligations.RegistersHaveOnlyTheirWriters
  intro i s t hop h
  have k := (effect_of_exec h).registersKept hop
  exact ⟨k.a, k.x, k.y, k.sp, k.pc⟩

/-- Settles O18: `FlagsKept` holds of every shape of an effect but an unsettled slot's. -/
theorem flagsHaveOnlyTheirWriters : Obligations.FlagsHaveOnlyTheirWriters := by
  unfold Obligations.FlagsHaveOnlyTheirWriters
  intro i s t hop h
  have k := (effect_of_exec h).flagsKept hop
  exact ⟨k.c, k.z, k.i, k.d, k.v, k.n⟩

end

section
/-! A halted engine, construction and the engine reset (R40, R340, R352, R353). Settles `HaltedEngineDoesNothing`,
`ResetMeetsTheInvariant` and `ConstructionAndEngineReset`. -/

namespace Sys2Proof.Machine

/-- R352: a halted engine performs no instruction. -/
@[simp] theorem step_halted {s : State} (h : s.halted = true) : step s = .next s := if_pos h

end Sys2Proof.Machine

open Sys2Proof Sys2Proof.Machine

/-- Settles O8: a step by `step_halted`, a batch by `batch_halted`. -/
theorem haltedEngineDoesNothing : Obligations.HaltedEngineDoesNothing :=
  fun _ h => ⟨step_halted h, fun _ => batch_halted h⟩

/-- Settles O13: memory after reset lists no cell and the queue is inactive, and `construct` puts the same values in place. -/
theorem resetMeetsTheInvariant : Obligations.ResetMeetsTheInvariant := by
  unfold Obligations.ResetMeetsTheInvariant
  have hmem : State.reset.mem.wf = true := rfl
  have hqueue : State.reset.queueOk = true := rfl
  exact ⟨⟨hmem, hqueue⟩, rfl⟩

/-- Settles O59: each field of `resetEngine` is a launch value or the field before, and `construct` is an engine reset of
`State.reset` with the launch memory and latch. -/
theorem constructionAndEngineReset : Obligations.ConstructionAndEngineReset := by
  unfold Obligations.ConstructionAndEngineReset
  refine ⟨fun l pc => ?_, fun l pc s => ?_⟩
  · simp [construct, resetEngine, State.reset]
  · simp [resetEngine]

end

section
/-! What every step and every host operation keeps: the invariant, the contents of the keyboard queue and the events so far (R52, R60,
R88). Settles `StepKeepsTheInvariant`, `HistoriesKeepTheInvariant` and `StepOnlyAppendsToTheTrace`. -/

namespace Sys2Proof.Machine

/-- What bus accesses and register updates leave of the state `s` in the state `t`, however many of them there are. -/
structure Keeps (s t : State) : Prop where
  inv : s.Inv → t.Inv
  kq : t.kq = s.kq
  trace : ∃ evs, t.trace = s.trace ++ evs

theorem Keeps.trans {s t u : State} (h : Keeps s t) (k : Keeps t u) : Keeps s u := by
  obtain ⟨e, he⟩ := h.trace
  obtain ⟨f, hf⟩ := k.trace
  exact ⟨fun hi => k.inv (h.inv hi), k.kq.trans h.kq, e ++ f, by rw [hf, he, List.append_assoc]⟩

/-- What only reads the bus keeps the queue's contents and the events, so the invariant is all that is left to show. -/
theorem Keeps.of_readFrame {s t : State} (h : ReadFrame s t) (hi : s.Inv → t.Inv) : Keeps s t := ⟨hi, h.kq, h.trace⟩

/-- An update of registers and flags. -/
theorem Keeps.of_registers {s t : State} (hm : t.mem = s.mem) (hq : t.kq = s.kq) (hc : t.kc = s.kc) (ha : t.kqActive = s.kqActive)
    (ht : t.trace = s.trace) : Keeps s t where
  inv h := by simpa only [State.Inv, State.queueOk, hm, hq, hc, ha] using h
  kq := hq
  trace := ⟨[], by rw [ht, List.append_nil]⟩

theorem Keeps.refl (s : State) : Keeps s s := .of_registers rfl rfl rfl rfl rfl

/-! ### The shared operations -/

theorem busRead_keeps (a : Nat) (s : State) : Keeps s (busRead a s).2 :=
  .of_readFrame (busRead_frame a s) fun h => busRead_inv h a

theorem busWrite_keeps (c : Params) (a : Nat) (v : Byte) (s : State) : Keeps s (busWrite c a v s) :=
  ⟨fun h => busWrite_inv h c a v, busWrite_kq c a v s, (busWrite_frame c a v s).trace⟩

theorem effAddr_keeps (c : Params) (m : DataMode) (s : State) : Keeps s (effAddr c m s).2 :=
  .of_readFrame (effAddr_frame c s m) fun h => effAddr_inv c h m

theorem store_keeps (c : Params) (m : DataMode) (v : Byte) (s : State) : Keeps s (store c m v s) :=
  (effAddr_keeps c m s).trans (busWrite_keeps ..)

theorem modify_keeps (c : Params) (m : DataMode) (f : Byte → Flags → Byte × Flags) (s : State) : Keeps s (modify c m f s) :=
  (((effAddr_keeps c m s).trans (busRead_keeps ..)).trans (busWrite_keeps ..)).trans (.of_registers rfl rfl rfl rfl rfl)

/-- An instruction that reads its operand keeps what its work on the byte keeps. -/
theorem withOperand_keeps {f : Byte → State → State} (hf : ∀ v u, Keeps u (f v u)) (c : Params) (o : ReadOperand) (s : State) :
    Keeps s (withOperand c o f s) :=
  (Keeps.of_readFrame (loadOperand_frame c s o) fun h => loadOperand_inv c h o).trans (hf ..)

theorem push_keeps (c : Params) (v : Byte) (s : State) : Keeps s (push c v s) :=
  (busWrite_keeps ..).trans (.of_registers rfl rfl rfl rfl rfl)

theorem push16_keeps (c : Params) (w : Word) (s : State) : Keeps s (push16 c w s) := (push_keeps ..).trans (push_keeps ..)

theorem read16_keeps (c : Params) (a : Nat) (s : State) : Keeps s (read16 c a s).2 :=
  .of_readFrame (read16_frame c s a) fun h => read16_inv c h a

theorem jumpThrough_keeps (c : Params) (a : Nat) (s : State) : Keeps s (jumpThrough c a s) :=
  (read16_keeps ..).trans (.of_registers rfl rfl rfl rfl rfl)

theorem branch_keeps (b : Bool) (d : Byte) (s : State) : Keeps s (branch b d s) := by
  cases b <;> exact .of_registers rfl rfl rfl rfl rfl

theorem enterInterrupt_keeps (c : Params) (ret : Word) (b : Bool) (s : State) : Keeps s (enterInterrupt c ret b s) := by
  rw [enterInterrupt_eq]
  exact ((push16_keeps c ret s).trans (push_keeps ..)).trans (.of_registers rfl rfl rfl rfl rfl)

/-! ### Instructions and steps -/

theorem keeps_of_readMeaning {op : Op} {f : Params → ReadOperand → State → State} (h : readMeaning op = some f) (c : Params)
    (o : ReadOperand) (s : State) : Keeps s (f c o s) := by
  cases op with
  | lda | ldx | ldy | and | ora | eor | cmp | cpx | cpy | bit =>
    cases h
    refine withOperand_keeps (fun _ _ => ?_) c o s
    exact .of_registers rfl rfl rfl rfl rfl
  | adc =>
    cases h
    refine withOperand_keeps (fun m u => ?_) c o s
    obtain ⟨q, n, hq, -⟩ := adcByte_eq_setResult c m u
    rw [hq]
    exact .of_registers rfl rfl rfl rfl rfl
  | sbc =>
    cases h
    refine withOperand_keeps (fun m u => ?_) c o s
    obtain ⟨q, n, hq, -⟩ := sbcByte_eq_setResult c m u
    rw [hq]
    exact .of_registers rfl rfl rfl rfl rfl
  | _ => cases h

theorem keeps_of_registerMeaning {op : Op} {f : State → State} (h : registerMeaning op = some f) (s : State) : Keeps s (f s) := by
  cases op with
  | tax | tay | txa | tya | tsx | txs | inx | iny | dex | dey => cases h; exact .of_registers rfl rfl rfl rfl rfl
  | clc | sec | cli | sei | cld | sed | clv | nop => cases h; exact .of_registers rfl rfl rfl rfl rfl
  | _ => cases h

theorem SlotBody.keeps {o : Operand} {f : State → State} (h : SlotBody o f) (s : State) : Keeps s (f s) := by
  cases h with
  | incA | decA | bitImm => exact .of_registers rfl rfl rfl rfl rfl
  | phx | phy => exact push_keeps ..
  | plx | ply => simp only [pullX, pullY, pop_eq]; exact .of_registers rfl rfl rfl rfl rfl
  | stz m => exact store_keeps ..
  | bit m => exact keeps_of_readMeaning (op := .bit) rfl ..

/-- Every instruction, whatever the parameters, does bus accesses and register updates alone. -/
theorem Effect.keeps {s t : State} {op : Op} {o : Operand} (h : Effect s op o t) : Keeps s t := by
  cases h with
  | read op o hf => exact keeps_of_readMeaning hf ..
  | store op m hr ht => exact ht ▸ store_keeps ..
  | modify op m hf ht => exact ht ▸ modify_keeps ..
  | modifyA op _ hf ht => exact ht ▸ .of_registers rfl rfl rfl rfl rfl
  | register op hf ht => exact ht ▸ keeps_of_registerMeaning hf s
  | branch op d => exact branch_keeps ..
  | jmpAbs | illegal => exact .of_registers rfl rfl rfl rfl rfl
  | jmpInd | jmpAbsIndX => exact jumpThrough_keeps ..
  | pha | php => exact push_keeps ..
  | pla | plp => simp only [pullA, pullP, pop_eq]; exact .of_registers rfl rfl rfl rfl rfl
  | jsr w => exact (push16_keeps ..).trans (.of_registers rfl rfl rfl rfl rfl)
  | rts => simp only [returnSubroutine, pop16_eq]; exact .of_registers rfl rfl rfl rfl rfl
  | brk => exact enterInterrupt_keeps ..
  | rti => simp only [returnFromInterrupt, pop16_eq, pop_eq]; exact .of_registers rfl rfl rfl rfl rfl
  | unsettled hf =>
    unfold unsettledSlot
    split
    · exact .of_registers rfl rfl rfl rfl rfl
    · exact hf.keeps s

theorem step_keeps {s t : State} (h : step s = .next t) : Keeps s t := by
  by_cases hs : s.halted = true
  · rw [step_halted hs] at h
    cases h
    exact .refl s
  · have hfetch : Keeps s (fetchInstr Config.params s).2 := .of_readFrame (fetchInstr_frame ..) (fetchInstr_inv _)
    exact hfetch.trans (effect_of_exec ((if_neg hs).symm.trans h)).keeps

/-! ### Host operations -/

/-- A batch keeps what each of its steps keeps. -/
theorem batch_inv {f : State → Outcome} (hf : ∀ s t, s.Inv → f s = .next t → t.Inv) {n : Nat} {s t : State} (h : s.Inv)
    (ht : batch f n s = .next t) : t.Inv := by
  induction n generalizing s with
  | zero =>
    cases ht
    exact h
  | succ n ih =>
    by_cases hs : s.halted = true
    · rw [batch_halted hs] at ht
      cases ht
      exact h
    · simp only [batch, hs] at ht
      cases hu : f s with
      | next u =>
        simp only [hu] at ht
        exact ih (hf s u h hu) ht
      | fault e => simp [hu] at ht
      | refused r => simp [hu] at ht

theorem irq_inv {s : State} (h : s.Inv) (c : Params) : (irq c s).Inv := by
  unfold irq
  split
  · exact h
  · exact enterInterrupt_inv c ((inv_useDraws s 1).mpr h) _ _

theorem busWriteChecked_inv {s : State} (h : s.Inv) (c : Params) (a v : Int) : (busWriteChecked c a v s).Inv := by
  unfold busWriteChecked
  split_ifs
  · exact h
  · exact h
  · exact busWrite_inv h c _ _

theorem loadBinary_inv {s : State} (h : s.Inv) (c : Params) (data : List Int) (origin : Int) : (loadBinary c data origin s).Inv := by
  induction data generalizing origin s with
  | nil => exact h
  | cons v data ih => exact ih (busWriteChecked_inv h c origin v) (origin + 1)

/-- R76: a fresh queue is active only if it has a byte. -/
theorem fillKeyBuf_inv {s t : State} (h : s.Inv) {text : List Nat} (ht : fillKeyBuf text s = .next t) : t.Inv := by
  unfold fillKeyBuf at ht
  split at ht
  · cases ht
    cases text with
    | nil => exact ⟨h.1, rfl⟩
    | cons ch text => exact ⟨h.1, by simp [State.queueOk]⟩
  · cases ht

theorem HostOp.run_inv {op : HostOp} {s t : State} (hop : ∀ l pc, op = .construct l pc → l.mem.wf = true) (h : s.Inv)
    (ht : op.run s = .next t) : t.Inv := by
  cases op with
  | construct l pc =>
    cases ht
    exact ⟨hop l pc rfl, rfl⟩
  | resetEngine l pc | setKey k | diagnose =>
    cases ht
    exact h
  | step => exact (step_keeps ht).inv h
  | runBatch n => exact batch_inv (fun _ _ hs hu => (step_keeps hu).inv hs) h ht
  | irq =>
    cases ht
    exact irq_inv h _
  | fillKeyBuf text => exact fillKeyBuf_inv h ht
  | loadBios image | loadBinary data origin =>
    cases ht
    exact loadBinary_inv h _ _ _

/-- A history that ends in a next state began with an operation that did. -/
theorem history_cons_eq_next {f : HostOp → State → Outcome} {op : HostOp} {ops : List HostOp} {s t : State}
    (h : history f (op :: ops) s = .next t) : ∃ u, f op s = .next u ∧ history f ops u = .next t := by
  cases hu : f op s with
  | next u => exact ⟨u, rfl, (history_cons_next hu).symm.trans h⟩
  | fault e => simp [history, hu] at h
  | refused r => simp [history, hu] at h

end Sys2Proof.Machine

open Sys2Proof Sys2Proof.Machine

/-- Settles O12: a step is a fetch and an instruction, and both keep what `Keeps` says. -/
theorem stepKeepsTheInvariant : Obligations.StepKeepsTheInvariant :=
  fun _ _ hs h => (step_keeps h).inv hs

/-- Settles O15: appending events is the last part of `Keeps`. -/
theorem stepOnlyAppendsToTheTrace : Obligations.StepOnlyAppendsToTheTrace :=
  fun _ _ h => (step_keeps h).trace

/-- Settles O14, by induction on the history. -/
theorem historiesKeepTheInvariant : Obligations.HistoriesKeepTheInvariant := by
  unfold Obligations.HistoriesKeepTheInvariant
  intro ops
  induction ops with
  | nil =>
    intro s t _ hs h
    cases h
    exact hs
  | cons op ops ih =>
    intro s t hl hs h
    obtain ⟨u, hu, ht⟩ := history_cons_eq_next h
    have hui : u.Inv := HostOp.run_inv (fun l pc hop => hl l pc (hop ▸ List.mem_cons_self)) hs hu
    exact ih u t (fun l pc hmem => hl l pc (List.mem_cons_of_mem op hmem)) hui ht

end

section
/-! Which instructions write memory and the display latch, and which use free values (R139, R140, R177, R178, R250). Settles
`MemoryHasOnlyItsWriters`. -/

namespace Sys2Proof.Machine

/-- R139, R140, R250: the state `t` after an instruction `op` with the operand `o` has the memory and the display latch of the state
`s` before unless the instruction stores, modifies memory or pushes, and as many free values used unless it adds or subtracts. -/
structure MemoryKept (op : Op) (o : Operand) (s t : State) : Prop where
  mem : op ∉ addressedWriters ∨ o = .acc → op ∉ pushers → t.mem = s.mem
  dspLatch : op ∉ addressedWriters ∨ o = .acc → op ∉ pushers → t.dspLatch = s.dspLatch
  draws : op ∉ [.adc, .sbc] → t.draws = s.draws

/-- What only reads the bus writes no memory and uses no free value. -/
theorem MemoryKept.of_readFrame {op : Op} {o : Operand} {s t : State} (h : ReadFrame s t) : MemoryKept op o s t :=
  ⟨fun _ _ => h.mem, fun _ _ => h.dspLatch, fun _ => h.draws⟩

/-- An instruction that writes at its effective address. -/
theorem MemoryKept.of_addressedWriter {op : Op} {m : DataMode} {s t : State} (hop : op ∈ addressedWriters) (h : t.draws = s.draws) :
    MemoryKept op (.data m) s t := by
  constructor <;> simp [hop, h]

/-- An instruction that pushes. -/
theorem MemoryKept.of_pusher {op : Op} {o : Operand} {s t : State} (hop : op ∈ pushers) (h : t.draws = s.draws) :
    MemoryKept op o s t := by
  constructor <;> simp [hop, h]

theorem mem_addressedWriters_of_storedRegister {op : Op} {r : State → Byte} (h : storedRegister op = some r) :
    op ∈ addressedWriters := by
  cases op with
  | sta | stx | sty => decide
  | _ => cases h

theorem mem_addressedWriters_of_modifier {op : Op} {f : Byte → Byte → Flags → Byte × Flags} (h : modifier op = some f) :
    op ∈ addressedWriters := by
  cases op with
  | inc | dec | asl | lsr | rol | ror | tsb | trb => decide
  | _ => cases h

theorem memoryKept_of_readMeaning {op : Op} {f : Params → ReadOperand → State → State} (h : readMeaning op = some f) (c : Params)
    (o : ReadOperand) (s : State) : MemoryKept op (asOperand o) s (f c o s) := by
  cases op with
  | lda | ldx | ldy => cases h; constructor <;> simp [lda, ldx, ldy, withOperand]
  | and | ora | eor => cases h; constructor <;> simp [andA, oraA, eorA, withOperand]
  | cmp | cpx | cpy | bit => cases h; constructor <;> simp [compareA, compareX, compareY, bitA, withOperand]
  | adc =>
    cases h
    obtain ⟨q, n, hq, -⟩ := adcByte_eq_setResult c (loadOperand c o s).1 (loadOperand c o s).2
    constructor <;> simp [adc, withOperand, hq, State.setResult]
  | sbc =>
    cases h
    obtain ⟨q, n, hq, -⟩ := sbcByte_eq_setResult c (loadOperand c o s).1 (loadOperand c o s).2
    constructor <;> simp [sbc, withOperand, hq, State.setResult]
  | _ => cases h

theorem memoryKept_of_registerMeaning {op : Op} {f : State → State} (h : registerMeaning op = some f) (s : State) :
    MemoryKept op .implied s (f s) := by
  cases op with
  | tax | tay | txa | tya | tsx | txs | inx | iny | dex | dey => cases h; constructor <;> simp
  | clc | sec | cli | sei | cld | sed | clv | nop => cases h; constructor <;> simp
  | _ => cases h

/-- Every instruction but an unsettled slot writes memory and the latch, and uses free values, as its rule says. -/
theorem Effect.memoryKept {s t : State} {op : Op} {o : Operand} (h : Effect s op o t) (hop : op ≠ .unsettled) :
    MemoryKept op o s t := by
  cases h with
  | read op o hf => exact memoryKept_of_readMeaning hf Config.params o s
  | store op m hr ht => exact .of_addressedWriter (mem_addressedWriters_of_storedRegister hr) (by simp [ht, Machine.store])
  | modify op m hf ht => exact .of_addressedWriter (mem_addressedWriters_of_modifier hf) (by simp [ht, Machine.modify])
  | modifyA op _ hf ht => constructor <;> simp [ht, Machine.modifyA]
  | register op hf ht => exact ht ▸ memoryKept_of_registerMeaning hf s
  | branch => exact .of_readFrame (branch_frame ..)
  | jmpAbs w => exact .of_readFrame (.setPc s w)
  | jmpInd | jmpAbsIndX => exact .of_readFrame (jumpThrough_frame ..)
  | pha | php => exact .of_pusher (by decide) (by simp [push_eq])
  | jsr => exact .of_pusher (by decide) (by simp [jumpSubroutine, push16_eq])
  | brk => exact .of_pusher (by decide) (by simp [enterInterrupt_eq, push16_eq, push_eq])
  | pla | plp => constructor <;> simp [pullA, pullP, pop_eq]
  | rts => constructor <;> simp [returnSubroutine, pop16_eq]
  | rti => constructor <;> simp [returnFromInterrupt, pop16_eq, pop_eq]
  | illegal => constructor <;> simp
  | unsettled => exact absurd rfl hop

end Sys2Proof.Machine

open Sys2Proof Sys2Proof.Machine

/-- Settles O19: `MemoryKept` holds of every shape of an effect but an unsettled slot's, and every effect keeps the queue's contents. -/
theorem memoryHasOnlyItsWriters : Obligations.MemoryHasOnlyItsWriters := by
  unfold Obligations.MemoryHasOnlyItsWriters
  intro i s t hop h
  have he := effect_of_exec h
  obtain ⟨hmem, hlatch, hdraws⟩ := he.memoryKept hop
  exact ⟨fun hw hp => ⟨hmem hw hp, hlatch hw hp⟩, hdraws, he.keeps.kq⟩

end

section
/-! Bus accesses by address (R53–R58, R64–R73): one equation for each range of addresses. Settles `BusReadFollowsTheAddressMap`,
`BusWriteFollowsTheAddressMap`, `WindowWritesGoByTheLowDigit`, `DisplayOutputsAndReadsBack`, `RepeatedReadsAgree` and
`RamReadsReturnTheLastWrite`. -/

namespace Sys2Proof.Machine

theorem inWindow_iff {a : Nat} : inWindow a = true ↔ 0xD000 ≤ a ∧ a ≤ 0xDFFF := by simp [inWindow]

theorem isRam_iff {a : Nat} : isRam a = true ↔ a < 0xD000 ∨ 0xDFFF < a ∧ a ≤ 0xFFFF := by
  simp only [isRam, inWindow, Bool.and_eq_true, Bool.not_eq_true', Bool.and_eq_false_iff, decide_eq_true_eq, decide_eq_false_iff_not]
  omega

/-- R69, R70: the low seven bits of a byte. -/
theorem and_lowSeven (v : Byte) : v &&& 0x7F = BitVec.ofNat 8 (v.toNat % 128) := by
  have hv := v.isLt
  apply BitVec.eq_of_toNat_eq
  rw [BitVec.toNat_and, BitVec.toNat_ofNat, Nat.mod_eq_of_lt (by omega)]
  exact Nat.and_two_pow_sub_one_eq_mod v.toNat 7

/-! ### Reads -/

theorem busRead_badAddress {a : Nat} (h : 0xFFFF < a) (s : State) : busRead a s = (0, s.emit (.error .badAddress)) := if_pos h

theorem busRead_window {a : Nat} (h : inWindow a = true) (s : State) : busRead a s = periphRead a s := by
  have ha := inWindow_iff.mp h
  rw [busRead, if_neg (by omega), if_pos h]

/-- R55: a RAM address gives the byte and warns if it is one of the two lowest. -/
theorem busRead_memory {a : Nat} (h : isRam a = true) (s : State) : busRead a s = (s.mem.read a, warnLow a s) := by
  have ha := isRam_iff.mp h
  have hw : ¬ inWindow a = true := by rw [inWindow_iff]; omega
  rw [busRead, if_neg (by omega), if_neg hw]

theorem periphRead_display {a : Nat} (h : a = 0xD012 ∨ a = 0xD0F2) (s : State) :
    periphRead a s = (BitVec.ofNat 8 (s.dspLatch.toNat % 128), s) := by
  rw [periphRead, if_neg (by omega), if_neg (by omega), if_pos h, dspDataRead, and_lowSeven]

theorem periphRead_unknown {a : Nat} (h : a < 0xD010 ∨ 0xD014 ≤ a) (h2 : a ≠ 0xD0F2) (s : State) :
    periphRead a s = (0, s.emit (.error .unknownIO)) := by
  rw [periphRead, if_neg (by omega), if_neg (by omega), if_neg (by omega), if_neg (by omega)]

/-- R85: what a read gives does not depend on the events so far. -/
theorem busRead_emit (a : Nat) (e : Event) (s : State) : (busRead a (s.emit e)).1 = (busRead a s).1 := by
  simp only [busRead, periphRead]
  split_ifs <;> rfl

/-- R85: a read of any address but the keyboard data register changes nothing but the trace. -/
theorem busRead_eq_or_emit {a : Nat} (h : a ≠ 0xD010) (s : State) : (busRead a s).2 = s ∨ ∃ e, (busRead a s).2 = s.emit e := by
  simp only [busRead, periphRead, warnLow, if_neg h]
  split_ifs
  · exact .inr ⟨_, rfl⟩
  · exact .inl rfl
  · exact .inl rfl
  · exact .inr ⟨_, rfl⟩
  · exact .inr ⟨_, rfl⟩
  · exact .inr ⟨_, rfl⟩
  · exact .inl rfl

/-! ### Writes -/

/-- R56: a RAM address gets the byte, with a warning if it is one of the two lowest. -/
theorem busWrite_memory {a : Nat} (h : isRam a = true) (c : Params) (v : Byte) (s : State) :
    busWrite c a v s = (warnLow a s).setMem (s.mem.write a v) := by
  have ha := isRam_iff.mp h
  have hw : ¬ inWindow a = true := by rw [inWindow_iff]; omega
  rw [busWrite, if_neg (by omega), if_neg hw]
  simp only [warnLow_mem]

/-- R57: folding keeps the window's digit `D` and the low digit, and sets bit 4. -/
theorem foldWrite_window {a : Nat} (h : inWindow a = true) : foldWrite a = 0xD010 + a % 16 := by
  obtain ⟨hlo, hhi⟩ := inWindow_iff.mp h
  have hhigh : (a &&& 0xF00F) / 2 ^ 12 = 13 := by
    rw [Nat.and_div_two_pow, show a / 2 ^ 12 = 13 by omega]
    rfl
  have hlow : (a &&& 0xF00F) % 2 ^ 12 = a % 16 := by
    rw [Nat.and_mod_two_pow, show 0xF00F % 2 ^ 12 = 2 ^ 4 - 1 from rfl, Nat.and_two_pow_sub_one_eq_mod]
    omega
  have hbase : foldWrite a / 2 ^ 4 = 0xD01 := by
    rw [foldWrite, Nat.or_div_two_pow, show (a &&& 0xF00F) / 2 ^ 4 = 0xD00 by omega]
    rfl
  have hdigit : foldWrite a % 2 ^ 4 = a % 16 := by
    rw [foldWrite, Nat.or_mod_two_pow, show 0x0010 % 2 ^ 4 = 0 from rfl, Nat.or_zero]
    omega
  omega

theorem busWrite_window {a : Nat} (h : inWindow a = true) (c : Params) (v : Byte) (s : State) :
    busWrite c a v s = periphWrite c (0xD010 + a % 16) v s := by
  have ha := inWindow_iff.mp h
  rw [busWrite, if_neg (by omega), if_pos h, foldWrite_window h]

theorem busWrite_display (c : Params) (v : Byte) (s : State) : busWrite c 0xD012 v s = dspDataWrite v s :=
  busWrite_window (by decide) c v s

theorem busWriteChecked_badAddress {a : Int} (h : a < 0 ∨ 0xFFFF < a) (c : Params) (v : Int) (s : State) :
    busWriteChecked c a v s = s.emit (.error .badAddress) := if_pos h

theorem busWriteChecked_badValue {a v : Int} (h0 : 0 ≤ a) (h1 : a ≤ 0xFFFF) (hv : v < 0 ∨ 0xFF < v) (c : Params) (s : State) :
    busWriteChecked c a v s = s.emit (.error .badValue) := by
  rw [busWriteChecked, if_neg (by omega), if_pos hv]

theorem busWriteChecked_inRange {a v : Int} (h0 : 0 ≤ a) (h1 : a ≤ 0xFFFF) (hv0 : 0 ≤ v) (hv1 : v ≤ 0xFF) (c : Params) (s : State) :
    busWriteChecked c a v s = busWrite c a.toNat (BitVec.ofInt 8 v) s := by
  rw [busWriteChecked, if_neg (by omega), if_neg (by omega)]

end Sys2Proof.Machine

open Sys2Proof Sys2Proof.Machine

/-- Settles O22: each clause is the equation of its range of addresses. -/
theorem busReadFollowsTheAddressMap : Obligations.BusReadFollowsTheAddressMap := by
  unfold Obligations.BusReadFollowsTheAddressMap
  refine fun a s => ⟨fun h => busRead_badAddress h s, fun h => ?_, fun h => ?_, fun h0 h1 h2 => ?_, fun h0 h1 => ?_, fun h => ?_,
    fun h1 h => busRead_ram (isRam_iff.mpr (.inl h)) h1 s, fun h0 h1 => busRead_ram (isRam_iff.mpr (.inr ⟨h0, h1⟩)) (by omega) s⟩
  · rw [busRead_window (inWindow_iff.mpr (by omega)), periphRead_display h]
  · subst h
    exact busRead_window (by decide) s
  · rw [busRead_window (inWindow_iff.mpr (by omega)), periphRead_unknown (by omega) h2]
    rfl
  · rw [busRead_window (inWindow_iff.mpr (by omega)), periphRead_unknown (by omega) (by omega)]
    rfl
  · rw [busRead_memory (isRam_iff.mpr (by omega)), warnLow, if_pos h]
    rfl

/-- Settles O23: an access out of range emits one error, and one in range is `busWrite`. -/
theorem busWriteFollowsTheAddressMap : Obligations.BusWriteFollowsTheAddressMap := by
  unfold Obligations.BusWriteFollowsTheAddressMap
  refine fun c a v s => ⟨fun h => ?_, fun h _ _ => busWriteChecked_badAddress h c v s,
    fun h0 h1 hv => busWriteChecked_badValue h0 h1 hv c s, fun hv0 hv1 => ⟨fun h => ?_, fun h0 h1 => ?_, fun h0 h1 => ?_,
    fun h0 h1 => ?_⟩⟩
  · by_cases ha : a < 0 ∨ 0xFFFF < a
    · exact ⟨_, busWriteChecked_badAddress ha c v s⟩
    · exact ⟨_, busWriteChecked_badValue (by omega) (by omega) (by omega) c s⟩
  · rw [busWriteChecked_inRange (by omega) (by omega) hv0 hv1, busWrite_memory (isRam_iff.mpr (by omega)), warnLow, if_pos (by omega)]
    rfl
  · rw [busWriteChecked_inRange (by omega) (by omega) hv0 hv1, busWrite_ram (isRam_iff.mpr (by omega)) (by omega)]
    rfl
  · rw [busWriteChecked_inRange (by omega) (by omega) hv0 hv1, busWrite_ram (isRam_iff.mpr (by omega)) (by omega)]
    rfl
  · have hw : inWindow a.toNat = true := inWindow_iff.mpr (by omega)
    rw [busWriteChecked_inRange (by omega) (by omega) hv0 hv1, (busWrite_frame c _ _ s).mem, isRam_eq_false (.inr hw)]
    rfl

/-- Settles O24: folding leaves the low digit alone, and `periphWrite` goes by the folded address. -/
theorem windowWritesGoByTheLowDigit : Obligations.WindowWritesGoByTheLowDigit := by
  unfold Obligations.WindowWritesGoByTheLowDigit
  intro c a v s hlo hhi
  have hw : inWindow a = true := inWindow_iff.mpr ⟨hlo, hhi⟩
  refine ⟨foldWrite_window hw, fun h => ?_, fun h => ?_, fun h => ?_, fun h => ?_⟩
  · rw [busWrite_window hw, periphWrite, if_pos (by omega)]
    rfl
  · rw [busWrite_window hw, h, busWrite_display]
    rfl
  · rw [busWrite_window hw, h]
    simp only [periphWrite, dspStatusWrite]
    cases c.wr13Event <;> simp [State.emit]
  · rw [busWrite_window hw, periphWrite, if_neg (by omega), if_neg (by omega), if_neg (by omega)]
    rfl

/-- Settles O26: the write is `dspDataWrite`, and the read masks the latch that it leaves. -/
theorem displayOutputsAndReadsBack : Obligations.DisplayOutputsAndReadsBack := by
  unfold Obligations.DisplayOutputsAndReadsBack
  intro c v s
  have hcr : BitVec.ofNat 8 (v.toNat % 128) = 0x0D ↔ v.toNat % 128 = 13 := by
    rw [← BitVec.toNat_inj, BitVec.toNat_ofNat, Nat.mod_eq_of_lt (by omega)]
    rfl
  rw [busWrite_display]
  refine ⟨?_, ?_⟩
  · simp only [dspDataWrite, and_lowSeven, hcr]
    rfl
  · rw [busRead_window (by decide), periphRead_display (.inl rfl)]
    rfl

/-- Settles O28: a read that is no keyboard data read leaves nothing but an event, on which no read depends. -/
theorem repeatedReadsAgree : Obligations.RepeatedReadsAgree := by
  unfold Obligations.RepeatedReadsAgree
  intro a s h
  rcases busRead_eq_or_emit h s with hs | ⟨e, he⟩
  · rw [hs]
  · rw [he, busRead_emit]

/-- Settles O29: both accesses reach the memory array, whose law is `Memory.read_write`. -/
theorem ramReadsReturnTheLastWrite : Obligations.RamReadsReturnTheLastWrite := by
  unfold Obligations.RamReadsReturnTheLastWrite
  intro c a b v s hs ha hb
  simp only [busRead_memory hb, busWrite_memory ha, State.setMem_mem]
  exact Memory.read_write (Memory.rising_of_wf hs.1) a b v

end

section
/-! The keyboard (R60, R66, R67, R76). Settles `KeyboardReadsConsumeAKey` and `FilledQueueIsReadInOrder`. -/

namespace Sys2Proof.Machine

/-- The warning of a key 0, as the events it appends. -/
theorem warnNoKey_eq (key : Byte) (s : State) : (if key = 0 then s.emit (.warn .noKey) else s) =
    { s with trace := s.trace ++ if key = 0 then [.warn .noKey] else [] } := by
  split
  · rfl
  · simp

/-- R66: with an active queue the read pops it. -/
theorem kbdDataRead_queue {s : State} (h : s.kqActive = true) : kbdDataRead s = (s.kq.getD s.kc 0 ||| 0x80,
    { s with
      lastKey := 0, kc := s.kc + 1, kqActive := decide (s.kc + 1 ≠ s.kq.length),
      trace := s.trace ++ if s.kq.getD s.kc 0 = 0 then [.warn .noKey] else [] }) := by
  simp only [kbdDataRead, h, if_true, warnNoKey_eq]

/-- R66: without an active queue the read takes the scalar key. -/
theorem kbdDataRead_scalar {s : State} (h : s.kqActive = false) : kbdDataRead s = (s.lastKey ||| 0x80,
    { s with lastKey := 0, trace := s.trace ++ if s.lastKey = 0 then [.warn .noKey] else [] }) := by
  simp only [kbdDataRead, h, Bool.false_eq_true, if_false, warnNoKey_eq]

theorem busRead_kbdData (s : State) : busRead 0xD010 s = kbdDataRead s := busRead_window (by decide) s

theorem busRead_kbdStatus (s : State) : busRead 0xD011 s = (kbdStatusRead s, s) := busRead_window (by decide) s

/-- R60: an active queue has a byte left. -/
theorem State.Inv.kc_lt {s : State} (h : s.Inv) (ha : s.kqActive = true) : s.kc < s.kq.length := by
  simpa [State.queueOk, ha] using h.2

/-- R66: as many data reads as the queue has bytes left give them in order and end it. -/
theorem readKeys_queue {n : Nat} {s : State} (hn : s.kc + n = s.kq.length) (hact : s.kqActive = decide (0 < n)) :
    (readKeys n s).1 = (s.kq.drop s.kc).map (· ||| 0x80) ∧ (readKeys n s).2.kqActive = false := by
  induction n generalizing s with
  | zero =>
    have hdrop : s.kq.drop s.kc = [] := List.drop_eq_nil_of_le (Nat.le_of_eq hn.symm)
    exact ⟨by rw [hdrop]; rfl, hact⟩
  | succ n ih =>
    have hlt : s.kc < s.kq.length := by omega
    have hread : busRead 0xD010 s = _ := (busRead_kbdData s).trans (kbdDataRead_queue (by simpa using hact))
    have hleft : decide (s.kc + 1 ≠ s.kq.length) = decide (0 < n) := decide_eq_decide.mpr (by omega)
    obtain ⟨hkeys, hend⟩ := ih (s := (busRead 0xD010 s).2) (by rw [hread]; simp only; omega) (by rw [hread]; exact hleft)
    refine ⟨?_, hend⟩
    rw [readKeys, hkeys, hread, List.drop_eq_getElem_cons hlt, List.map_cons, List.getD_eq_getElem _ _ hlt]

theorem fillKeyBuf_next {text : List Nat} (h : ∀ ch ∈ text, ch ≤ 0xFF) (s : State) :
    fillKeyBuf text s = .next { s with kq := text.map keyByte, kc := 0, kqActive := decide (0 < text.length) } := by
  have hact : (!text.isEmpty) = decide (0 < text.length) := by cases text <;> rfl
  rw [fillKeyBuf, if_pos (by simpa using h), hact]

theorem fillKeyBuf_refused {text : List Nat} (h : ∃ ch ∈ text, 0xFF < ch) (s : State) :
    fillKeyBuf text s = .refused .keyCharAboveFF :=
  if_neg (by simpa using h)

end Sys2Proof.Machine

open Sys2Proof Sys2Proof.Machine

/-- Settles O25: the data read in its two cases, with R60 for when the queue ends, and the status read. -/
theorem keyboardReadsConsumeAKey : Obligations.KeyboardReadsConsumeAKey := by
  unfold Obligations.KeyboardReadsConsumeAKey
  refine fun s hs => ⟨fun h => ?_, fun h => (busRead_kbdData s).trans (kbdDataRead_scalar h), ?_⟩
  · have hlt := hs.kc_lt h
    have hleft : decide (s.kc + 1 ≠ s.kq.length) = decide (s.kc + 1 < s.kq.length) := decide_eq_decide.mpr (by omega)
    rw [busRead_kbdData, kbdDataRead_queue h, hleft]
  · simp [busRead_kbdStatus, kbdStatusRead]

/-- Settles O27: the fresh queue meets what `readKeys_queue` asks, with all its bytes left. -/
theorem filledQueueIsReadInOrder : Obligations.FilledQueueIsReadInOrder := by
  unfold Obligations.FilledQueueIsReadInOrder
  refine fun text s => ⟨fun h => fillKeyBuf_refused h s, fun h => ⟨_, fillKeyBuf_next h s, rfl, ?_⟩⟩
  obtain ⟨hkeys, hend⟩ := readKeys_queue (n := text.length)
    (s := { s with kq := text.map keyByte, kc := 0, kqActive := decide (0 < text.length) }) (by simp) rfl
  exact ⟨by rw [hkeys, List.drop_zero, List.map_map]; rfl, hend⟩

end

section
/-! Loading bytes into memory (R77, R78): a load that stays in RAM is one bus write for each byte. Settles `LoadedBytesReadBack`. -/

namespace Sys2Proof.Machine

/-- The bytes of a load as the numbers that the host's loader takes. -/
def loadData (data : List Byte) : List Int := data.map fun b => (b.toNat : Int)

/-- Every byte of a load of `n` bytes at `origin` lands in RAM. -/
def LandsInRam (n origin : Nat) : Prop := ∀ k < n, isRam (origin + k) = true

theorem landsInRam_of_range {n origin : Nat} (h : origin + n ≤ 0xD000 ∨ 0xE000 ≤ origin ∧ origin + n ≤ 0x10000) :
    LandsInRam n origin := fun k hk => isRam_iff.mpr (by omega)

theorem LandsInRam.head {n origin : Nat} (h : LandsInRam (n + 1) origin) : isRam origin = true := h 0 n.succ_pos

theorem LandsInRam.tail {n origin : Nat} (h : LandsInRam (n + 1) origin) : LandsInRam n (origin + 1) := fun k hk => by
  rw [Nat.add_assoc, Nat.add_comm 1 k]
  exact h (k + 1) (Nat.succ_lt_succ hk)

theorem loadBinary_cons (c : Params) (v : Int) (data : List Int) (origin : Int) (s : State) :
    loadBinary c (v :: data) origin s = loadBinary c data (origin + 1) (busWriteChecked c origin v s) := rfl

/-- A byte that lands in RAM is a bus write. -/
theorem loadBinary_cons_ram {origin : Nat} (h : isRam origin = true) (c : Params) (v : Byte) (data : List Byte) (s : State) :
    loadBinary c (loadData (v :: data)) origin s = loadBinary c (loadData data) ↑(origin + 1) (busWrite c origin v s) := by
  have ha := isRam_iff.mp h
  have hv := v.isLt
  have hbyte : BitVec.ofInt 8 (v.toNat : Int) = v := by simp
  rw [loadData, List.map_cons, loadBinary_cons, busWriteChecked_inRange (by omega) (by omega) (by omega) (by omega), hbyte]
  rfl

/-- R78: a load in RAM places its bytes in order and leaves the rest of memory. -/
theorem loadBinary_read (c : Params) {data : List Byte} {origin : Nat} {s : State} (hs : s.Inv)
    (hram : LandsInRam data.length origin) (b : Nat) : (loadBinary c (loadData data) origin s).mem.read b =
      if origin ≤ b ∧ b < origin + data.length then data.getD (b - origin) 0 else s.mem.read b := by
  induction data generalizing origin s with
  | nil => exact (if_neg (by rw [List.length_nil]; omega)).symm
  | cons v data ih =>
    have hmem : (busWrite c origin v s).mem.read b = if b = origin then v else s.mem.read b := by
      rw [busWrite_memory hram.head, State.setMem_mem, Memory.read_write (Memory.rising_of_wf hs.1)]
    rw [loadBinary_cons_ram hram.head, ih (busWrite_inv hs c origin v) hram.tail, hmem, List.length_cons]
    rcases Nat.lt_trichotomy b origin with hb | rfl | hb
    · rw [if_neg (by omega), if_neg (by omega), if_neg (by omega)]
    · rw [if_neg (by omega), if_pos rfl, if_pos (by omega), Nat.sub_self, List.getD_cons_zero]
    · obtain ⟨k, rfl⟩ : ∃ k, b = origin + 1 + k := ⟨b - (origin + 1), by omega⟩
      rw [if_neg (by omega : ¬ origin + 1 + k = origin), show origin + 1 + k - (origin + 1) = k by omega,
        show origin + 1 + k - origin = k + 1 by omega, List.getD_cons_succ]
      congr 1
      exact propext (by omega)

/-- R78: a load in RAM changes memory and the trace alone. -/
theorem loadBinary_frame (c : Params) {data : List Byte} {origin : Nat} {s : State} (hram : LandsInRam data.length origin) :
    loadBinary c (loadData data) origin s =
      { s with
        mem := (loadBinary c (loadData data) origin s).mem
        trace := (loadBinary c (loadData data) origin s).trace } := by
  induction data generalizing origin s with
  | nil => rfl
  | cons v data ih =>
    have hwrite : ∀ m t, { busWrite c origin v s with mem := m, trace := t } = { s with mem := m, trace := t } := fun m t => by
      rw [busWrite_memory hram.head]
      unfold warnLow
      split <;> rfl
    rw [loadBinary_cons_ram hram.head]
    exact (ih hram.tail).trans (hwrite _ _)

/-- R55, R78: a load in RAM above `0x0001` emits nothing. -/
theorem loadBinary_trace (c : Params) {data : List Byte} {origin : Nat} {s : State} (hram : LandsInRam data.length origin)
    (h : 1 < origin) : (loadBinary c (loadData data) origin s).trace = s.trace := by
  induction data generalizing origin s with
  | nil => rfl
  | cons v data ih =>
    rw [loadBinary_cons_ram hram.head, ih hram.tail (by omega), busWrite_ram hram.head h, State.setMem_trace]

/-- R54, R78: a load above `0xFFFF` is one error for each byte; no address wraps. -/
theorem loadBinary_badAddress (c : Params) {data : List Int} {origin : Int} (h : 0xFFFF < origin) (s : State) :
    loadBinary c data origin s = { s with trace := s.trace ++ List.replicate data.length (.error .badAddress) } := by
  induction data generalizing origin s with
  | nil => simp [loadBinary]
  | cons v data ih =>
    rw [loadBinary_cons, busWriteChecked_badAddress (.inr h), ih (by omega), List.length_cons, List.replicate_succ]
    simp [State.emit]

theorem loadBinary_append (c : Params) (first second : List Int) (origin : Int) (s : State) :
    loadBinary c (first ++ second) origin s = loadBinary c second (origin + first.length) (loadBinary c first origin s) := by
  induction first generalizing origin s with
  | nil => simp [loadBinary]
  | cons v first ih =>
    rw [List.cons_append, loadBinary_cons, loadBinary_cons, ih, List.length_cons]
    congr 1
    omega

end Sys2Proof.Machine

open Sys2Proof Sys2Proof.Machine

/-- Settles O30: the two loaders in RAM by `loadBinary_read` and `loadBinary_frame`, the other loads by induction on the bytes. -/
theorem loadedBytesReadBack : Obligations.LoadedBytesReadBack := by
  unfold Obligations.LoadedBytesReadBack
  refine ⟨fun c data origin s hs hrange => ?_, fun c data origin s h => ?_, loadBinary_append, fun c image s hs => ?_⟩
  · have hram : LandsInRam data.length origin := landsInRam_of_range hrange
    refine ⟨fun k hk => ?_, fun b hb => ?_, loadBinary_frame c hram⟩
    · exact (loadBinary_read c hs hram (origin + k)).trans (by rw [if_pos (by omega), Nat.add_sub_cancel_left])
    · exact (loadBinary_read c hs hram b).trans (if_neg (by omega))
  · simpa using loadBinary_badAddress c (data := data.map fun b => (b.toNat : Int)) h s
  · have hlen : image.toList.length = 256 := image.length_toList
    have hram : LandsInRam image.toList.length 0xFF00 := landsInRam_of_range (by omega)
    refine ⟨fun k => ?_, fun b hb => ?_, ?_⟩
    · refine (loadBinary_read c hs hram (0xFF00 + k.val)).trans ?_
      rw [if_pos (by omega), Nat.add_sub_cancel_left, List.getD_eq_getElem _ _ (by omega)]
      rfl
    · exact (loadBinary_read c hs hram b).trans (if_neg (by omega))
    · have htrace : (loadBios c image s).trace = s.trace := loadBinary_trace c hram (by decide)
      have hframe := loadBinary_frame c (s := s) hram
      exact hframe.trans (congrArg (fun t => { s with mem := (loadBios c image s).mem, trace := t }) htrace)

end

section
/-! Encoding and decoding (30_encoding.md R100–R110): the opcode byte fixes the operation, the addressing mode and the length,
and decoding and encoding undo each other. Settles `DecodeOfEncodeGivesTheInstruction`, `EncodeOfDecodeGivesTheBytes`,
`OpcodeByteFixesLengthAndClass`, `RuleEncodingsAreTheDecoder`, `WordsOfTheOpcodeMapDecode` and
`LengthFollowsTheAddressingMode`. -/

namespace Sys2Proof.Machine

/-! ### The operand bytes of a mode -/

/-- R101, R102: an operand of the same mode, with its byte or word taken from the bytes after the opcode. -/
def withBytes (b1 b2 : Byte) : Operand → Operand
  | .implied => .implied
  | .acc => .acc
  | .imm _ => .imm b1
  | .rel _ => .rel b1
  | .ind _ => .ind (wordOf b2 b1)
  | .absIndX _ => .absIndX (wordOf b2 b1)
  | .data (.zp _) => .data (.zp b1)
  | .data (.zpX _) => .data (.zpX b1)
  | .data (.zpY _) => .data (.zpY b1)
  | .data (.abs _) => .data (.abs (wordOf b2 b1))
  | .data (.absX _) => .data (.absX (wordOf b2 b1))
  | .data (.absY _) => .data (.absY (wordOf b2 b1))
  | .data (.indX _) => .data (.indX b1)
  | .data (.indY _) => .data (.indY b1)
  | .data (.indZp _) => .data (.indZp b1)

@[simp] theorem shape_withBytes (b1 b2 : Byte) (o : Operand) : shape (withBytes b1 b2 o) = shape o := by
  cases o with
  | data m => cases m <;> rfl
  | _ => rfl

@[simp] theorem withBytes_withBytes (b1 b2 c1 c2 : Byte) (o : Operand) :
    withBytes b1 b2 (withBytes c1 c2 o) = withBytes b1 b2 o := by
  cases o with
  | data m => cases m <;> rfl
  | _ => rfl

/-- The bytes of such an operand are those it was taken from. -/
theorem bytes_withBytes (b1 b2 : Byte) (o : Operand) : (withBytes b1 b2 o).bytes = [b1, b2].take o.bytes.length := by
  cases o with
  | data m => cases m <;> simp [withBytes, Operand.bytes, DataMode.bytes]
  | _ => simp [withBytes, Operand.bytes]

/-- An operand is read back from its own bytes. -/
theorem withBytes_eq_self {b1 b2 : Byte} {o : Operand} (h : [b1, b2].take o.bytes.length = o.bytes) : withBytes b1 b2 o = o := by
  cases o with
  | data m => cases m <;> simp_all [withBytes, Operand.bytes, DataMode.bytes]
  | _ => simp_all [withBytes, Operand.bytes]

theorem length_bytes_le_two (o : Operand) : o.bytes.length ≤ 2 := by
  cases o with
  | data m => cases m <;> simp [Operand.bytes, DataMode.bytes]
  | _ => simp [Operand.bytes]

/-! ### What an opcode byte decodes to -/

/-- R110: `i` is the instruction `j` with its operand taken from the bytes `b1` and `b2`. -/
structure ReadAs (j : Instr) (b1 b2 : Byte) (i : Instr) : Prop where
  wf : i.wf = true
  opcode : i.opcode = j.opcode
  operand : i.operand = withBytes b1 b2 j.operand

theorem decodeOpcode_readAs {j : Instr} (h : j.wf = true) (b1 b2 : Byte) : ReadAs j b1 b2 (decodeOpcode j.opcode b1 b2) := by
  cases j with
  | illegal op =>
    rw [Instr.opcode, decodeOpcode_illegal b1 b2 op (List.contains_iff_mem.mp h)]
    exact ⟨h, rfl, rfl⟩
  | _ =>
    rw [Instr.opcode]
    exact ⟨rfl, rfl, rfl⟩

/-- An instruction is read from its own opcode and operand bytes. -/
theorem decodeOpcode_opcode {i : Instr} (h : i.wf = true) {b1 b2 : Byte}
    (hb : [b1, b2].take i.operand.bytes.length = i.operand.bytes) :
    decodeOpcode i.opcode b1 b2 = i := by
  have hself : withBytes b1 b2 i.operand = i.operand := withBytes_eq_self hb
  cases i with
  | illegal op => exact decodeOpcode_illegal b1 b2 op (List.contains_iff_mem.mp h)
  | _ =>
    cases hself
    rw [Instr.opcode]
    rfl

/-- R105: every byte is the opcode of an instruction. -/
theorem exists_opcode_eq (op : Byte) : ∃ i : Instr, i.wf = true ∧ i.opcode = op :=
  ⟨decodeOpcode op 0 0, by revert op; decide⟩

theorem decodeOpcode_wf (op b1 b2 : Byte) : (decodeOpcode op b1 b2).wf = true := by
  obtain ⟨j, hj, rfl⟩ := exists_opcode_eq op
  exact (decodeOpcode_readAs hj b1 b2).wf

@[simp] theorem opcode_decodeOpcode (op b1 b2 : Byte) : (decodeOpcode op b1 b2).opcode = op := by
  obtain ⟨j, hj, rfl⟩ := exists_opcode_eq op
  exact (decodeOpcode_readAs hj b1 b2).opcode

/-- R110: the addressing mode is known from the opcode byte alone. -/
theorem operand_decodeOpcode (op b1 b2 : Byte) :
    (decodeOpcode op b1 b2).operand = withBytes b1 b2 (decodeOpcode op 0 0).operand := by
  obtain ⟨j, hj, rfl⟩ := exists_opcode_eq op
  rw [(decodeOpcode_readAs hj b1 b2).operand, (decodeOpcode_readAs hj 0 0).operand, withBytes_withBytes]

theorem operandCount_le_two (op : Byte) : operandCount op ≤ 2 := length_bytes_le_two _

/-- R101, R110: the operand bytes of the decoded instruction. -/
theorem bytes_decodeOpcode (op b1 b2 : Byte) : (decodeOpcode op b1 b2).operand.bytes = [b1, b2].take (operandCount op) := by
  rw [operand_decodeOpcode, bytes_withBytes, operandCount]

theorem length_bytes_decodeOpcode (op b1 b2 : Byte) : (decodeOpcode op b1 b2).operand.bytes.length = operandCount op := by
  rw [bytes_decodeOpcode, List.length_take_of_le (operandCount_le_two op)]

theorem encode_decodeOpcode (op b1 b2 : Byte) : encode (decodeOpcode op b1 b2) = op :: [b1, b2].take (operandCount op) := by
  rw [encode, opcode_decodeOpcode, bytes_decodeOpcode]

theorem operandCount_opcode {i : Instr} (h : i.wf = true) : operandCount i.opcode = i.operand.bytes.length := by
  rw [operandCount, (decodeOpcode_readAs h 0 0).operand, bytes_withBytes, List.length_take_of_le (length_bytes_le_two _)]

/-- R110: only the operand bytes of its mode decide which instruction an opcode byte gives. -/
theorem decodeOpcode_congr {op b1 b2 c1 c2 : Byte} (h : [b1, b2].take (operandCount op) = [c1, c2].take (operandCount op)) :
    decodeOpcode op b1 b2 = decodeOpcode op c1 c2 := by
  have hread := decodeOpcode_opcode (decodeOpcode_wf op c1 c2) (b1 := b1) (b2 := b2)
    (by rw [length_bytes_decodeOpcode, bytes_decodeOpcode, h])
  rwa [opcode_decodeOpcode] at hread

/-- R150–R279: the byte of a listed form decodes to that form where its operand bytes are zero. -/
theorem decodeOpcode_ruleForms (op : Op) :
    ∀ f ∈ ruleForms op, (decodeOpcode f.2 0 0).op = op ∧ shape (decodeOpcode f.2 0 0).operand = f.1 := by
  cases op <;> decide

/-! ### The decoder on a list of bytes -/

theorem take_getD_pair {n : Nat} {l : List Byte} (h2 : n ≤ 2) (hn : n ≤ l.length) :
    [l.getD 0 0, l.getD 1 0].take n = l.take n := by
  match n, l with
  | 0, _ => rfl
  | 1, _ :: _ => rfl
  | 2, _ :: _ :: _ => rfl

/-- R101, R110: when the decoder reads an instruction, and which. -/
theorem decode_cons_eq_ok {op : Byte} {l rest : List Byte} {i : Instr} : decode (op :: l) = .ok (i, rest) ↔
    operandCount op ≤ l.length ∧ decodeOpcode op (l.getD 0 0) (l.getD 1 0) = i ∧ l.drop (operandCount op) = rest := by
  simp only [decode]
  split_ifs with h
  · simp [h]
  · simp [Nat.not_lt.mp h]

end Sys2Proof.Machine

open Sys2Proof Sys2Proof.Machine

/-- Settles O1: the opcode byte fixes how many bytes are read, and `decodeOpcode_opcode` says that they give the instruction. -/
theorem decodeOfEncodeGivesTheInstruction : Obligations.DecodeOfEncodeGivesTheInstruction := by
  unfold Obligations.DecodeOfEncodeGivesTheInstruction
  intro i rest h
  have htake := take_getD_pair (l := i.operand.bytes ++ rest) (length_bytes_le_two i.operand) (by simp)
  rw [List.take_left] at htake
  rw [encode, List.cons_append, decode_cons_eq_ok, operandCount_opcode h]
  exact ⟨by simp, decodeOpcode_opcode h htake, List.drop_left⟩

/-- Settles O2: the bytes of a decoded instruction are those taken from the list, by `encode_decodeOpcode`. -/
theorem encodeOfDecodeGivesTheBytes : Obligations.EncodeOfDecodeGivesTheBytes := by
  unfold Obligations.EncodeOfDecodeGivesTheBytes
  intro bs rest i h
  cases bs with
  | nil => simp [decode] at h
  | cons op l =>
    obtain ⟨hn, rfl, rfl⟩ := decode_cons_eq_ok.mp h
    refine ⟨decodeOpcode_wf op _ _, ?_⟩
    rw [encode_decodeOpcode, take_getD_pair (operandCount_le_two op) hn, List.cons_append, List.take_append_drop]

/-- Settles O5: the length and the operation by the lemmas above, the illegal slots from well-formedness, the unsettled slots by
looking up the 256 bytes. -/
theorem opcodeByteFixesLengthAndClass : Obligations.OpcodeByteFixesLengthAndClass := by
  unfold Obligations.OpcodeByteFixesLengthAndClass
  intro op b1 b2
  refine ⟨length_bytes_decodeOpcode op b1 b2, decodeOpcode_op op b1 b2 0 0, ⟨fun h => ?_, decodeOpcode_illegal b1 b2 op⟩, ?_⟩
  · have hwf : (Instr.illegal op).wf = true := h ▸ decodeOpcode_wf op b1 b2
    exact List.contains_iff_mem.mp hwf
  · rw [decodeOpcode_op op b1 b2 0 0]
    revert op
    decide

/-- Settles O6: the listed byte is looked up with zero operand bytes, and neither the operation nor the mode depends on them. -/
theorem ruleEncodingsAreTheDecoder : Obligations.RuleEncodingsAreTheDecoder := by
  unfold Obligations.RuleEncodingsAreTheDecoder
  refine ⟨fun op f b1 b2 hf => ?_, fun i => hasRuleForm_of_settled⟩
  rw [decodeOpcode_op f.2 b1 b2 0 0, operand_decodeOpcode, shape_withBytes]
  exact decodeOpcode_ruleForms op f hf

/-- Settles O3, by running the decoder on each word. -/
theorem wordsOfTheOpcodeMapDecode : Obligations.WordsOfTheOpcodeMapDecode := by
  unfold Obligations.WordsOfTheOpcodeMapDecode
  exact ⟨rfl, rfl, rfl, rfl, rfl, rfl, rfl, rfl, rfl, rfl, rfl, rfl⟩

/-- Settles O4, by cases on the mode. -/
theorem lengthFollowsTheAddressingMode : Obligations.LengthFollowsTheAddressingMode := by
  unfold Obligations.LengthFollowsTheAddressingMode
  intro i
  rw [encode, List.length_cons]
  cases i.operand with
  | data m => cases m <;> rfl
  | _ => rfl

end

section
/-! The fetch of an instruction that lies in plain RAM (R103, R104). Settles `StepRunsTheInstructionAtPc`. -/

namespace Sys2Proof.Machine

/-- The `n` bytes from `pc` are RAM above `0x0001`, where a bus read gives the byte and does nothing else (R53, R55). -/
def PlainRam (n : Nat) (pc : Word) : Prop :=
  ∀ k < n, 1 < (pc + BitVec.ofNat 16 k).toNat ∧ isRam (pc + BitVec.ofNat 16 k).toNat = true

theorem PlainRam.head {n : Nat} {pc : Word} (h : PlainRam (n + 1) pc) : 1 < pc.toNat ∧ isRam pc.toNat = true := by
  simpa using h 0 n.succ_pos

theorem PlainRam.tail {n : Nat} {pc : Word} (h : PlainRam (n + 1) pc) : PlainRam n (pc + 1) := fun k hk => by
  have hnext : pc + 1 + BitVec.ofNat 16 k = pc + BitVec.ofNat 16 (k + 1) := by
    rw [BitVec.add_assoc, Nat.add_comm k 1, BitVec.ofNat_add]
    rfl
  rw [hnext]
  exact h (k + 1) (Nat.succ_lt_succ hk)

theorem fetchByte_plain {n : Nat} {pc : Word} (h : PlainRam (n + 1) pc) (s : State) :
    fetchByte (s.setPc pc) = (s.mem.read pc.toNat, s.setPc (pc + 1)) := by
  obtain ⟨hlow, hram⟩ := h.head
  rw [fetchByte, State.setPc_pc, busRead_ram hram hlow]
  rfl

/-- R103: operand bytes in plain RAM are the bytes after the opcode, and their fetch moves PC past them and does nothing else. -/
theorem fetchOperands_plain {n : Nat} {s : State} (hn : n ≤ 2) (h : PlainRam (n + 1) s.pc) :
    (fetchOperands (some n) s).state = s.setPc (s.pc + BitVec.ofNat 16 (n + 1)) ∧
    [(fetchOperands (some n) s).b1, (fetchOperands (some n) s).b2].take n =
      [s.mem.read (s.pc + 1).toNat, s.mem.read (s.pc + 2).toNat].take n := by
  match n, hn with
  | 0, _ => exact ⟨rfl, rfl⟩
  | 1, _ =>
    have hfirst : fetchByte s.advance = _ := fetchByte_plain h.tail s
    simp only [fetchOperands, hfirst, BitVec.add_assoc]
    exact ⟨rfl, rfl⟩
  | 2, _ =>
    have hfirst : fetchByte s.advance = _ := fetchByte_plain h.tail s
    have hsecond : fetchByte (s.setPc (s.pc + 1 + 1)) = _ := fetchByte_plain h.tail.tail s
    simp only [fetchOperands, hfirst, hsecond]
    simp only [BitVec.add_assoc]
    exact ⟨rfl, rfl⟩

/-- R290, R291: the instruction halts, and no byte after its opcode is fetched. -/
def Halts (i : Instr) : Prop := i.op = .illegal ∨ i.op = .unsettled ∧ Config.params.unnamedC02Slot = .halt

theorem exec_of_halts {i : Instr} (h : Halts i) (s : State) : exec i s = .next s.halt := by
  obtain ⟨t, ht, he⟩ := exec_effect i s
  rw [ht]
  rcases h with hop | ⟨hop, hslot⟩ <;> rw [hop] at he
  · rw [he.eq_halt]
  · obtain ⟨f, -, rfl⟩ := he.eq_unsettledSlot
    rw [unsettledSlot, hslot]

/-- R290: PC stays at an instruction that halts. -/
theorem exec_consumed_of_halts {i : Instr} (h : Halts i) (s : State) :
    exec i (s.setPc (s.pc + BitVec.ofNat 16 (consumed i))) = .next s.halt := by
  have hzero : consumed i = 0 := by
    rcases h with hop | ⟨hop, hslot⟩
    · rw [consumed, hop]
    · rw [consumed, hop, hslot]
  rw [exec_of_halts h, hzero, BitVec.add_zero]
  rfl

/-- R104: no operand byte is fetched where the opcode halts, and all of them elsewhere, where PC moves past the instruction. -/
theorem operandsFetched_cases {i : Instr} {op : Byte} (hop : (decodeOpcode op 0 0).op = i.op) :
    (Halts i ∧ operandsFetched Config.params op = none) ∨
    (operandsFetched Config.params op = some (operandCount op) ∧ consumed i = (encode i).length) := by
  simp only [Halts, operandsFetched, consumed, hop]
  cases i.op with
  | illegal => simp
  | unsettled => cases Config.params.unnamedC02Slot <;> simp
  | _ => simp

/-- R104, R352: a step of an engine that runs. -/
theorem step_of_running {s : State} (hs : s.halted = false) :
    step s = exec (fetchInstr Config.params s).1 (fetchInstr Config.params s).2 := if_neg (by simp [hs])

/-- R104: a step performs an instruction in plain RAM with PC past it, or at it where it halts. -/
theorem step_plain {s : State} (hs : s.halted = false) {i : Instr}
    (hi : decodeOpcode (s.mem.read s.pc.toNat) (s.mem.read (s.pc + 1).toNat) (s.mem.read (s.pc + 2).toNat) = i)
    (hplain : PlainRam (encode i).length s.pc) : step s = exec i (s.setPc (s.pc + BitVec.ofNat 16 (consumed i))) := by
  generalize hop : s.mem.read s.pc.toNat = op at hi
  have hlen : (encode i).length = operandCount op + 1 := by simp [← hi, encode, length_bytes_decodeOpcode]
  rw [hlen] at hplain
  obtain ⟨hlow, hram⟩ := hplain.head
  have hsame : (decodeOpcode op 0 0).op = i.op := hi ▸ decodeOpcode_op op 0 0 _ _
  rw [step_of_running hs, fetchInstr, busRead_ram hram hlow, hop]
  rcases operandsFetched_cases hsame with ⟨hhalts, hfetched⟩ | ⟨hfetched, hconsumed⟩
  · have hhalts0 : Halts (decodeOpcode op 0 0) := by rwa [Halts, hsame]
    rw [hfetched, exec_consumed_of_halts hhalts]
    exact exec_of_halts hhalts0 s
  · obtain ⟨hstate, hbytes⟩ := fetchOperands_plain (operandCount_le_two op) hplain
    rw [hfetched, hconsumed, hlen, ← hi, ← decodeOpcode_congr hbytes, ← hstate]

end Sys2Proof.Machine

open Sys2Proof Sys2Proof.Machine

/-- Settles O7: the general clause is the fetch written out; the clause on plain RAM is `step_plain`, and an unsettled slot that
halts does so where it stands. -/
theorem stepRunsTheInstructionAtPc : Obligations.StepRunsTheInstructionAtPc := by
  unfold Obligations.StepRunsTheInstructionAtPc
  refine ⟨fun s hs => step_of_running hs, fun s i rest hs hdecode hplain => ?_⟩
  obtain ⟨-, hi, -⟩ := decode_cons_eq_ok.mp hdecode
  rw [step_plain hs hi hplain]
  split_ifs with hhalts
  · exact exec_consumed_of_halts (.inr hhalts) s
  · rfl

end

section
/-! The addressing modes in plain arithmetic (R124–R136) and the jumps that use them (R240). Settles `DirectModesGiveTheirAddress`,
`IndirectModesGiveThePointedAddress` and `JumpsLoadPc`. -/

namespace Sys2Proof.Machine

/-! ### Address sums (R125) -/

theorem overflowAddr_of_le {n : Nat} (h : n ≤ 0xFFFF) (c : Params) : overflowAddr c n = n := if_pos h

/-- Under `wrap16` an indexed sum past the top, which is less than twice the address space, loses `0x10000`. -/
theorem overflowAddr_of_wrap16 {c : Params} (hc : c.addrOverflow = .wrap16) {n : Nat} (h : 0xFFFF < n) (hn : n < 0x20000) :
    overflowAddr c n = n - 0x10000 := by
  rw [overflowAddr, if_neg (by omega), hc]
  show n % 0x10000 = n - 0x10000
  omega

theorem overflowAddr_of_busOutOfRange {c : Params} (hc : c.addrOverflow = .busOutOfRange) (n : Nat) : overflowAddr c n = n := by
  rw [overflowAddr, hc]
  exact ite_self n

/-! ### Zero-page pointers (R126) -/

/-- R55: the warning of a low address, as the events it appends. -/
theorem warnLow_eq (a : Nat) (s : State) :
    warnLow a s = { s with trace := s.trace ++ if a ≤ 1 then [.warn .lowAddress] else [] } := by
  unfold warnLow
  split
  · rfl
  · simp

theorem zpSucc_le (c : Params) (p : Byte) : zpSucc c p ≤ 0x100 := by
  have hp := p.isLt
  unfold zpSucc
  split
  · cases c.zpPtrWrap <;> decide
  · omega

/-- R126: both bytes of a pointer lie in RAM, so reading it does nothing but warn. -/
theorem zpPointer_eq (c : Params) (p : Byte) (s : State) : zpPointer c p s =
    (wordOf (s.mem.read (zpSucc c p)) (s.mem.read p.toNat), warnLow (zpSucc c p) (warnLow p.toNat s)) := by
  have hp := p.isLt
  have hsucc := zpSucc_le c p
  have hlo : isRam p.toNat = true := isRam_iff.mpr (by omega)
  have hhi : isRam (zpSucc c p) = true := isRam_iff.mpr (by omega)
  simp only [zpPointer, busRead_memory hlo, busRead_memory hhi, warnLow_mem]

/-- R126: a little-endian word as a number. -/
theorem wordOf_eq_ofNat (h l : Byte) : wordOf h l = BitVec.ofNat 16 (l.toNat + 256 * h.toNat) := by
  apply BitVec.eq_of_toNat_eq
  have hlt := (wordOf h l).isLt
  rw [wordOf_toNat] at hlt
  rw [wordOf_toNat, BitVec.toNat_ofNat, Nat.add_comm, Nat.mod_eq_of_lt (by omega)]

/-- R124, R135, R136: a jump through a pointer loads PC with the little-endian word there. -/
theorem jumpThrough_eq (c : Params) (a : Nat) (s : State) : jumpThrough c a s =
    let lo := busRead a s
    let hi := busRead (overflowAddr c (a + 1)) lo.2
    hi.2.setPc (BitVec.ofNat 16 (lo.1.toNat + 256 * hi.1.toNat)) := by
  simp only [jumpThrough, read16, wordOf_eq_ofNat]

end Sys2Proof.Machine

open Sys2Proof Sys2Proof.Machine

/-- Settles O31: a zero-page sum is a byte, and a word and a byte give less than `0x20000`. -/
theorem directModesGiveTheirAddress : Obligations.DirectModesGiveTheirAddress := by
  unfold Obligations.DirectModesGiveTheirAddress
  intro c b w s
  refine ⟨rfl, Prod.ext (BitVec.toNat_add b s.x) rfl, Prod.ext (BitVec.toNat_add b s.y) rfl, rfl, fun r => ?_, rfl, rfl⟩
  intro sum
  have hsum : sum < 0x20000 := by
    have hw := w.isLt
    have hr := r.isLt
    omega
  split
  · next h => exact overflowAddr_of_le h c
  · next h =>
    cases hc : c.addrOverflow with
    | wrap16 => exact overflowAddr_of_wrap16 hc (by omega) hsum
    | busOutOfRange => exact overflowAddr_of_busOutOfRange hc sum

/-- Settles O32: each mode resolves one zero-page pointer, whose word and warnings `zpPointer_eq` gives. -/
theorem indirectModesGiveThePointedAddress : Obligations.IndirectModesGiveThePointedAddress := by
  unfold Obligations.IndirectModesGiveThePointedAddress
  intro c b s succ ptr after
  have hsucc (p : Byte) : zpSucc c p = succ p := by
    have hp := p.isLt
    by_cases htop : p = 0xFF
    · subst htop
      cases hc : c.zpPtrWrap <;> simp [zpSucc, succ, hc]
    · have hlt : p.toNat < 0xFF := by
        have hne : p.toNat ≠ 0xFF := fun h => htop (BitVec.eq_of_toNat_eq h)
        omega
      exact (zpSucc_of_ne htop c).trans (if_pos hlt).symm
  have hptr (p : Byte) : (zpPointer c p s).1.toNat = ptr p := by
    rw [zpPointer_eq, wordOf_toNat, hsucc, Nat.add_comm]
  have hafter (p : Byte) : (zpPointer c p s).2 = after p := by
    rw [zpPointer_eq, hsucc, warnLow_eq, warnLow_eq]
  refine ⟨Prod.ext (hptr _) (hafter _), Prod.ext ?_ (hafter b), Prod.ext (hptr b) (hafter b)⟩
  exact congrArg (fun n => overflowAddr c (n + s.y.toNat)) (hptr b)

/-- Settles O49: the two pointer forms are `jumpThrough` at their address. -/
theorem jumpsLoadPc : Obligations.JumpsLoadPc := by
  unfold Obligations.JumpsLoadPc
  refine ⟨fun i h => hasRuleForm_of_settled (by simp [h]) (by simp [h]), fun w s => ⟨rfl, ?_, ?_⟩⟩
  · exact congrArg Host.Outcome.next (jumpThrough_eq Config.params w.toNat s)
  · exact congrArg Host.Outcome.next (jumpThrough_eq Config.params _ s)

end

section
/-! Stores and read-modify-writes of memory (R139, R140, R153–R155): the one write at the effective address. Settles
`StoresWriteTheRegister` and `AddressedWritesChangeOneByte`. -/

namespace Sys2Proof.Machine

/-! ### Which effects these instructions have -/

theorem not_mem_addressedWriters_of_readMeaning {op : Op} {f : Params → ReadOperand → State → State}
    (h : readMeaning op = some f) : op ∉ addressedWriters := by
  cases op with
  | lda | ldx | ldy | adc | sbc | cmp | cpx | cpy | and | ora | eor | bit => decide
  | _ => cases h

theorem not_mem_addressedWriters_of_registerMeaning {op : Op} {f : State → State} (h : registerMeaning op = some f) :
    op ∉ addressedWriters := by
  cases op with
  | tax | tay | txa | tya | tsx | txs | inx | iny | dex | dey | clc | sec | cli | sei | cld | sed | clv | nop => decide
  | _ => cases h

theorem modifier_eq_none_of_storedRegister {op : Op} {r : State → Byte} (h : storedRegister op = some r) : modifier op = none := by
  cases op with
  | sta | stx | sty => rfl
  | _ => cases h

/-- R139, R140: an instruction that writes at an effective address stores a register or modifies a byte, in memory or in A. -/
theorem Effect.store_or_modify {s t : State} {op : Op} {o : Operand} (h : Effect s op o t) (hop : op ∈ addressedWriters) :
    (∃ r m, storedRegister op = some r ∧ o = .data m ∧ t = Machine.store Config.params m (r s) s) ∨
    ∃ f, modifier op = some f ∧ ((∃ m, o = .data m ∧ t = Machine.modify Config.params m (f s.a) s) ∨
      o = .acc ∧ t = Machine.modifyA (f s.a) s) := by
  cases h with
  | store op m hr ht => exact .inl ⟨_, m, hr, rfl, ht⟩
  | modify op m hf ht => exact .inr ⟨_, hf, .inl ⟨m, rfl, ht⟩⟩
  | modifyA op _ hf ht => exact .inr ⟨_, hf, .inr ⟨rfl, ht⟩⟩
  | read op o hf => exact absurd hop (not_mem_addressedWriters_of_readMeaning hf)
  | register op hf => exact absurd hop (not_mem_addressedWriters_of_registerMeaning hf)
  | branch op d hbr => exact absurd hop (by revert op; decide)
  | jmpAbs | jmpInd | jmpAbsIndX | pha | php | pla | plp | jsr | rts | brk | rti | illegal | unsettled =>
    exact absurd hop (by decide)

/-- R139: the effect of a store. -/
theorem Effect.eq_store {s t : State} {op : Op} {o : Operand} {r : State → Byte} (h : Effect s op o t)
    (hr : storedRegister op = some r) : ∃ m, o = .data m ∧ t = Machine.store Config.params m (r s) s := by
  rcases h.store_or_modify (mem_addressedWriters_of_storedRegister hr) with ⟨r', m, hr', ho, ht⟩ | ⟨f, hf, -⟩
  · obtain rfl : r = r' := Option.some.inj (hr.symm.trans hr')
    exact ⟨m, ho, ht⟩
  · simp [modifier_eq_none_of_storedRegister hr] at hf

/-- R153–R155: a store has a form of its rule and makes one bus write of its register. -/
theorem exec_of_storedRegister {i : Instr} {r : State → Byte} (hr : storedRegister i.op = some r) (s : State) :
    HasRuleForm i ∧ ∃ m, i.operand = .data m ∧ exec i s = .next (store Config.params m (r s) s) := by
  obtain ⟨t, hexec, he⟩ := exec_effect i s
  obtain ⟨m, ho, rfl⟩ := he.eq_store hr
  exact ⟨hasRuleForm_of_settled (fun h => by simp [h, storedRegister] at hr) (fun h => by simp [h, storedRegister] at hr),
    m, ho, hexec⟩

/-! ### What the write changes -/

/-- R88, R139, R140: between the states `s` and `t` there are reads of the bus, one write at the address `a` and an update of the
flags. -/
def WritesOnceAt (a : Nat) (s t : State) : Prop :=
  ∃ u v q, ReadFrame s u ∧ t = (busWrite Config.params a v u).setP q

theorem WritesOnceAt.read_of_ne {a b : Nat} {s t : State} (h : WritesOnceAt a s t) (hs : s.Inv) (hb : b ≠ a) :
    t.mem.read b = s.mem.read b := by
  obtain ⟨u, v, q, hread, rfl⟩ := h
  rw [State.setP_mem, (busWrite_frame ..).mem, hread.mem]
  split
  · rw [Memory.read_write (Memory.rising_of_wf hs.1), if_neg hb]
  · rfl

theorem WritesOnceAt.mem_eq {a : Nat} {s t : State} (h : WritesOnceAt a s t) (ha : isRam a = false) : t.mem = s.mem := by
  obtain ⟨u, v, q, hread, rfl⟩ := h
  rw [State.setP_mem, (busWrite_frame ..).mem, hread.mem, ha]
  rfl

theorem WritesOnceAt.dspLatch_eq {a : Nat} {s t : State} (h : WritesOnceAt a s t) (ha : isRam a = true) :
    t.dspLatch = s.dspLatch := by
  obtain ⟨u, v, q, hread, rfl⟩ := h
  rw [State.setP_dspLatch, busWrite_memory ha, ← hread.dspLatch]
  exact (ReadFrame.warnLow a u).dspLatch

theorem Effect.writesOnceAt {s t : State} {op : Op} {m : DataMode} (h : Effect s op (.data m) t) (hop : op ∈ addressedWriters) :
    WritesOnceAt (effAddr Config.params m s).1 s t := by
  rcases h.store_or_modify hop with ⟨r, m', -, ho, rfl⟩ | ⟨f, -, ⟨m', ho, rfl⟩ | ⟨ho, -⟩⟩ <;> cases ho
  · exact ⟨_, _, _, effAddr_frame Config.params s m, rfl⟩
  · exact ⟨_, _, _, (effAddr_frame Config.params s m).trans (busRead_frame ..), rfl⟩

/-- R126: resolving an address does nothing but append warnings. -/
theorem effAddr_state_eq (c : Params) (m : DataMode) (s : State) :
    ∃ evs, (effAddr c m s).2 = { s with trace := s.trace ++ evs } := by
  have hpointer (p : Byte) : ∃ evs, (zpPointer c p s).2 = { s with trace := s.trace ++ evs } := by
    rw [zpPointer_eq, warnLow_eq, warnLow_eq]
    exact ⟨_, by rw [List.append_assoc]⟩
  cases m with
  | zp | zpX | zpY | abs | absX | absY => exact ⟨[], by rw [List.append_nil]; rfl⟩
  | indX | indY | indZp => exact hpointer _

/-- R139: a store leaves every flag and the keyboard. -/
theorem store_frame (c : Params) (m : DataMode) (v : Byte) (s : State) :
    (store c m v s).p = s.p ∧ (store c m v s).lastKey = s.lastKey ∧ (store c m v s).kc = s.kc ∧
    (store c m v s).kqActive = s.kqActive := by
  obtain ⟨evs, heff⟩ := effAddr_state_eq c m s
  have hwrite := busWrite_frame c (effAddr c m s).1 v (effAddr c m s).2
  rw [heff] at hwrite
  simp only [store, heff]
  exact ⟨hwrite.p, hwrite.lastKey, hwrite.kc, hwrite.kqActive⟩

/-- R139: the operations of the three stores. -/
theorem exists_storedRegister {op : Op} (h : op ∈ [.sta, .stx, .sty]) : ∃ r, storedRegister op = some r := by
  cases op with
  | sta | stx | sty => exact ⟨_, rfl⟩
  | _ => simp at h

end Sys2Proof.Machine

open Sys2Proof Sys2Proof.Machine

/-- Settles O34: each store is `exec_of_storedRegister` with its register. -/
theorem storesWriteTheRegister : Obligations.StoresWriteTheRegister := by
  unfold Obligations.StoresWriteTheRegister
  refine fun i s => ⟨fun h => ?_, fun h => ?_, fun h => ?_⟩
  · exact exec_of_storedRegister (r := State.a) (by rw [h]; rfl) s
  · exact exec_of_storedRegister (r := State.x) (by rw [h]; rfl) s
  · exact exec_of_storedRegister (r := State.y) (by rw [h]; rfl) s

/-- Settles O20: memory and the latch by the one write, registers and flags by the lists of their writers, and the stores' flags
and keyboard by `store_frame`. -/
theorem addressedWritesChangeOneByte : Obligations.AddressedWritesChangeOneByte := by
  unfold Obligations.AddressedWritesChangeOneByte
  intro i m s t hs hop ho hexec
  have he := effect_of_exec hexec
  rw [ho] at he
  generalize i.op = op at hop he ⊢
  have hnot {k l : List Op} (hk : op ∈ k) (h : ∀ op ∈ k, op ∉ l) : op ∉ l := h op hk
  have hsettled : op ≠ .unsettled := ne_of_mem_of_not_mem hop (by decide)
  have hlegal : op ≠ .illegal := ne_of_mem_of_not_mem hop (by decide)
  have hw := he.writesOnceAt hop
  have hreg := he.registersKept hsettled
  have hflag := he.flagsKept hsettled
  refine ⟨fun b hb => hw.read_of_ne hs hb, hw.mem_eq, hw.dspLatch_eq, hreg.a (hnot hop (by decide)) (by simp),
    hreg.x (hnot hop (by decide)), hreg.y (hnot hop (by decide)), hreg.sp (hnot hop (by decide)), hreg.pc (hnot hop (by decide)),
    hreg.halted hlegal, he.keeps.kq, (he.memoryKept hsettled).draws (hnot hop (by decide)), hflag.v (hnot hop (by decide)),
    hflag.d (hnot hop (by decide)), hflag.i (hnot hop (by decide)), fun h => hflag.c (hnot h (by decide)),
    fun h => ⟨hflag.n (hnot h (by decide)), hflag.c (hnot h (by decide))⟩, fun h => ?_⟩
  obtain ⟨r, hr⟩ := exists_storedRegister h
  obtain ⟨m', -, rfl⟩ := he.eq_store hr
  exact store_frame ..

end

section
/-! Operations of mode Implied on registers and flags alone (R14, R156–R161). Settles `TransfersCopyARegister`. -/

namespace Sys2Proof.Machine

/-- R14: setting N and Z is an update of the flags. -/
theorem State.setNZ_eq_setP_withNZ (v : Byte) (s : State) : s.setNZ v = s.setP (withNZ v s.p) := by
  rw [State.setNZ, Flags.setNZ_eq_withNZ]

/-- An instruction whose operation touches registers and flags alone answers what its meaning makes of the state. -/
theorem exec_of_registerMeaning {i : Instr} {f : State → State} (h : registerMeaning i.op = some f) (s : State) :
    exec i s = .next (f s) := by
  cases i with
  | tax | tay | txa | tya | tsx | txs | inx | iny | dex | dey | clc | sec | cli | sei | cld | sed | clv | nop => cases h; rfl
  | _ => cases h

/-- An operation that puts a value of the state into a register and sets N and Z of that value. -/
theorem exec_of_registerResult {i : Instr} {put : Byte → State → State} {v : State → Byte} (hput : ∀ b u, (put b u).p = u.p)
    (h : registerMeaning i.op = some fun u => (put (v u) u).setNZ (v u)) (s : State) :
    exec i s = .next ((put (v s) s).setP (withNZ (v s) s.p)) := by
  rw [exec_of_registerMeaning h, State.setNZ_eq_setP_withNZ, hput]

end Sys2Proof.Machine

open Sys2Proof Sys2Proof.Machine

/-- Settles O35: each transfer but TXS is `exec_of_registerResult` with its destination and its source, and TXS sets no flag. -/
theorem transfersCopyARegister : Obligations.TransfersCopyARegister := by
  unfold Obligations.TransfersCopyARegister
  refine ⟨fun i hi => hasRuleForm_of_settled (by revert i; decide) (by revert i; decide), fun s => ⟨?_, ?_, ?_, ?_, ?_, ?_⟩⟩
  · exact exec_of_registerResult (put := State.setX) (v := State.a) (fun _ _ => rfl) rfl s
  · exact exec_of_registerResult (put := State.setY) (v := State.a) (fun _ _ => rfl) rfl s
  · exact exec_of_registerResult (put := State.setA) (v := State.x) (fun _ _ => rfl) rfl s
  · exact exec_of_registerResult (put := State.setA) (v := State.y) (fun _ _ => rfl) rfl s
  · exact exec_of_registerResult (put := State.setX) (v := State.sp) (fun _ _ => rfl) rfl s
  · exact exec_of_registerMeaning (f := fun u => u.setSp u.x) rfl s

end

section
/-! Binary-coded decimal (R170): the helpers of the model in plain arithmetic, and the round trip. Settles
`BcdHelpersAndRoundTrip`. -/

namespace Sys2Proof.Machine

theorem bcdValid_iff (v : Byte) : bcdValid v = true ↔ IsBcd v := by simp [bcdValid, IsBcd]

/-- R170: shifting in a digit is adding it to the sixteenfold. -/
theorem bcdEncode_eq_bcdOf (n : Nat) : bcdEncode n = bcdOf n := by
  have hor : (n / 10) <<< 4 ||| n % 10 = 16 * (n / 10) + n % 10 := by
    rw [← Nat.shiftLeft_add_eq_or_of_lt (by omega), Nat.shiftLeft_eq, Nat.mul_comm]
  rw [bcdEncode, bcdOf, hor]

theorem toNat_bcdOf {n : Nat} (h : n < 100) : (bcdOf n).toNat = 16 * (n / 10) + n % 10 := by
  rw [bcdOf, BitVec.toNat_ofNat]
  omega

theorem isBcd_bcdOf {n : Nat} (h : n < 100) : IsBcd (bcdOf n) := by
  rw [IsBcd, toNat_bcdOf h]
  omega

theorem digits_bcdOf {n : Nat} (h : n < 100) : digits (bcdOf n) = n := by
  rw [digits, toNat_bcdOf h]
  omega

theorem IsBcd.digits_lt {v : Byte} (h : IsBcd v) : digits v < 100 := by
  unfold IsBcd at h
  unfold digits
  omega

theorem IsBcd.bcdOf_digits {v : Byte} (h : IsBcd v) : bcdOf (digits v) = v := by
  apply BitVec.eq_of_toNat_eq
  rw [toNat_bcdOf h.digits_lt]
  unfold IsBcd at h
  unfold digits
  omega

end Sys2Proof.Machine

open Sys2Proof Sys2Proof.Machine

/-- Settles O40: the helpers are `IsBcd`, `digits` and `bcdOf`, which are inverse to each other. -/
theorem bcdHelpersAndRoundTrip : Obligations.BcdHelpersAndRoundTrip := by
  unfold Obligations.BcdHelpersAndRoundTrip
  refine ⟨fun v => ⟨bcdValid_iff v, rfl⟩, fun n hn => ?_, fun v hv => ?_⟩
  · rw [bcdEncode_eq_bcdOf, bcdValid_iff]
    exact ⟨rfl, isBcd_bcdOf hn, digits_bcdOf hn⟩
  · have hbcd : IsBcd v := (bcdValid_iff v).mp hv
    exact ⟨hbcd.digits_lt, (bcdEncode_eq_bcdOf _).trans hbcd.bcdOf_digits⟩

end

section
/-! Binary ADC and SBC (R171, R172, R174, R175, R189): the overflow flag by the sign bits, and that it is signed overflow. Settles
`BinaryAddAndSubtract` and `OverflowFlagIsSignedOverflow`. -/

namespace Sys2Proof.Machine

/-- Masking with `0x80` tests the sign bit. -/
theorem and_signBit_ne_zero (v : Byte) : (v &&& 0x80 != 0) = v.msb := by
  rw [show (0x80 : Byte) = BitVec.twoPow 8 7 from rfl, BitVec.and_twoPow, BitVec.msb_eq_getLsbD_last]
  cases v.getLsbD (8 - 1) <;> rfl

/-- R172: ADC's flags, with V by the sign bits: A and the operand have the same one, and the result has the other. -/
theorem adcBinary_eq (a m : Byte) (p : Flags) : adcBinary a m p =
    let sum := a.toNat + m.toNat + p.c.toNat
    let r := BitVec.ofNat 8 sum
    (r, withNZ r { p with c := decide (0xFF < sum), v := decide (a.msb = m.msb ∧ r.msb ≠ a.msb) }) := by
  have hbits : ∀ x y z : Bool, ((x ^^ z) && (y ^^ z)) = decide (x = y ∧ z ≠ x) := by decide
  have hv (r : Byte) : ((a ^^^ r) &&& (m ^^^ r) &&& 0x80 != 0) = decide (a.msb = m.msb ∧ r.msb ≠ a.msb) := by
    rw [and_signBit_ne_zero, BitVec.msb_and, BitVec.msb_xor, BitVec.msb_xor, hbits]
  simp only [adcBinary, Flags.setNZ_eq_withNZ, hv, gt_iff_lt]

/-- R175: SBC's flags, with V by the sign bits: A and the operand differ in it, and the result has the operand's. -/
theorem sbcBinary_eq (a m : Byte) (p : Flags) : sbcBinary a m p =
    let diff : Int := a.toNat - m.toNat - (1 - p.c.toNat)
    let r := BitVec.ofInt 8 diff
    (r, withNZ r { p with c := decide (0 ≤ diff), v := decide (a.msb ≠ m.msb ∧ r.msb ≠ a.msb) }) := by
  have hbits : ∀ x y z : Bool, ((x ^^ y) && (x ^^ z)) = decide (x ≠ y ∧ z ≠ x) := by decide
  have hv (r : Byte) : ((a ^^^ m) &&& (a ^^^ r) &&& 0x80 != 0) = decide (a.msb ≠ m.msb ∧ r.msb ≠ a.msb) := by
    rw [and_signBit_ne_zero, BitVec.msb_and, BitVec.msb_xor, BitVec.msb_xor, hbits]
  simp only [sbcBinary, Flags.setNZ_eq_withNZ, hv, ge_iff_le]

/-- R189: adding overflows exactly if the sign bits say so. -/
theorem signedOverflow_add (a m : Byte) (c : Bool) :
    (a.msb = m.msb ∧ (BitVec.ofNat 8 (a.toNat + m.toNat + c.toNat)).msb ≠ a.msb) ↔
      a.toInt + m.toInt + c.toNat < -128 ∨ 127 < a.toInt + m.toInt + c.toNat := by
  have ha := a.isLt
  have hm := m.isLt
  have hc := c.toNat_le
  simp only [BitVec.toInt_eq_msb_cond, BitVec.msb_eq_decide, BitVec.toNat_ofNat, ne_eq, decide_eq_decide, decide_eq_true_eq]
  split <;> split <;> omega

/-- R189: subtracting overflows exactly if the sign bits say so. -/
theorem signedOverflow_sub (a m : Byte) (c : Bool) :
    (a.msb ≠ m.msb ∧ (BitVec.ofInt 8 (a.toNat - m.toNat - (1 - c.toNat))).msb ≠ a.msb) ↔
      a.toInt - m.toInt - (1 - c.toNat) < -128 ∨ 127 < a.toInt - m.toInt - (1 - c.toNat) := by
  have ha := a.isLt
  have hm := m.isLt
  have hc := c.toNat_le
  simp only [BitVec.toInt_eq_msb_cond, BitVec.msb_eq_decide, BitVec.toNat_ofInt, ne_eq, decide_eq_decide, decide_eq_true_eq]
  split <;> split <;> omega

/-- An operation that reads an operand byte has a form of its rule. -/
theorem hasRuleForm_of_readMeaning {i : Instr} {f : Params → ReadOperand → State → State} (h : readMeaning i.op = some f) :
    HasRuleForm i :=
  hasRuleForm_of_settled (fun hop => by simp [hop, readMeaning] at h) (fun hop => by simp [hop, readMeaning] at h)

/-- R171: ADC with D = 0. -/
theorem adcByte_binary {s t : State} (h : ReadFrame s t) (hd : s.p.d = false) (c : Params) (m : Byte) :
    adcByte c m t = t.setResult (adcBinary s.a m s.p) := by
  simp [adcByte, h.a, h.p, hd]

/-- R174: SBC with D = 0. -/
theorem sbcByte_binary {s t : State} (h : ReadFrame s t) (hd : s.p.d = false) (c : Params) (m : Byte) :
    sbcByte c m t = t.setResult (sbcBinary s.a m s.p) := by
  simp [sbcByte, h.a, h.p, hd]

end Sys2Proof.Machine

open Sys2Proof Sys2Proof.Machine

/-- Settles O36: with D = 0 each operation puts its binary result into A and the flags. -/
theorem binaryAddAndSubtract : Obligations.BinaryAddAndSubtract := by
  unfold Obligations.BinaryAddAndSubtract
  refine fun i s hd => ⟨fun h => ?_, fun h => ?_⟩
  · have hop : readMeaning i.op = some adc := by rw [h]; rfl
    obtain ⟨m, t, hm, ht, he⟩ := exec_of_withOperand (g := adcByte) hop s
    rw [adcByte_binary ht hd, adcBinary_eq] at he
    exact ⟨hasRuleForm_of_readMeaning hop, m, t, hm, he⟩
  · have hop : readMeaning i.op = some sbc := by rw [h]; rfl
    obtain ⟨m, t, hm, ht, he⟩ := exec_of_withOperand (g := sbcByte) hop s
    rw [sbcByte_binary ht hd, sbcBinary_eq] at he
    exact ⟨hasRuleForm_of_readMeaning hop, m, t, hm, he⟩

/-- Settles O37: V is a test of sign bits, which is the test for signed overflow. -/
theorem overflowFlagIsSignedOverflow : Obligations.OverflowFlagIsSignedOverflow := by
  unfold Obligations.OverflowFlagIsSignedOverflow
  intro a m p
  constructor
  · rw [adcBinary_eq, ← signedOverflow_add]
    exact decide_eq_true_iff
  · rw [sbcBinary_eq, ← signedOverflow_sub]
    exact decide_eq_true_iff

end

section
/-! Decimal ADC and SBC (R173, R176–R178), both by the exact sum or difference. Settles `DecimalAddAndSubtract` and
`DecimalOfInvalidBcdCompletes`. -/

namespace Sys2Proof.Machine

/-- R173, R176: the exact decimal sum or difference. -/
def decimalExact (op : Op) (a m : Byte) (c : Bool) : Int :=
  if op = .adc then digits a + digits m + c.toNat else digits a - digits m - 1 + c.toNat

/-- R173, R176: the number that is stored for the exact result `n`: one hundred less after a carry, more after a borrow. -/
def decimalStored (op : Op) (n : Int) : Int :=
  if op = .adc then (if 99 < n then n - 100 else n) else (if n < 0 then n + 100 else n)

/-- R173, R176: the carry of the exact result `n`. -/
def decimalCarry (op : Op) (n : Int) : Bool := decide (if op = .adc then 99 < n else 0 ≤ n)

/-- The model's decimal sum or difference and carry; `k` numbers the free value (assumption log 6). -/
def bcdResult (op : Op) (k : Nat) (a m : Byte) (c : Bool) : Byte × Bool :=
  if op = .adc then bcdAdd a m c else bcdSub k a m c

/-- R173, R176, R177's `formula`: the byte and the carry by the exact result. -/
theorem bcdResult_eq (op : Op) (k : Nat) (a m : Byte) (c : Bool) :
    bcdResult op k a m c =
      (if 0 ≤ decimalStored op (decimalExact op a m c) then bcdOf (decimalStored op (decimalExact op a m c)).toNat
        else Config.drawByte k,
      decimalCarry op (decimalExact op a m c)) := by
  have hdec (v : Byte) : bcdDecode v = digits v := rfl
  by_cases hop : op = .adc
  · simp only [bcdResult, decimalStored, decimalExact, decimalCarry, hop, if_true, bcdAdd, bcdEncode_eq_bcdOf, hdec]
    generalize hn : digits a + digits m + c.toNat = n
    have hcast : (digits a + digits m + c.toNat : Int) = n := by omega
    rw [hcast]
    by_cases hover : 99 < n
    · have hstored : ((n : Int) - 100).toNat = n - 100 := by omega
      simp [hover, hstored, Nat.succ_le_of_lt hover]
    · simp [hover]
  · simp only [bcdResult, decimalStored, decimalExact, decimalCarry, hop, if_false, bcdSub, bcdEncode_eq_bcdOf, hdec]
    generalize (digits a - digits m - 1 + c.toNat : Int) = n
    by_cases hlow : n < -100
    · simp [hlow, show n < 0 by omega, show ¬ 0 ≤ n + 100 by omega]
    · by_cases hneg : n < 0
      · simp [hlow, hneg, show 0 ≤ n + 100 by omega]
      · simp [hlow, hneg, show 0 ≤ n by omega]

/-- R170, R173, R176: of valid BCD bytes the stored number is the exact result mod 100. -/
theorem decimalStored_of_isBcd {a m : Byte} (ha : IsBcd a) (hm : IsBcd m) (op : Op) (c : Bool) :
    decimalStored op (decimalExact op a m c) = decimalExact op a m c % 100 := by
  have ha := ha.digits_lt
  have hm := hm.digits_lt
  have hc := c.toNat_le
  unfold decimalStored decimalExact
  split_ifs <;> omega

/-- R173, R176: the byte that valid BCD bytes give. -/
theorem bcdResult_of_isBcd {a m : Byte} (ha : IsBcd a) (hm : IsBcd m) (op : Op) (k : Nat) (c : Bool) :
    bcdResult op k a m c = (bcdOf (decimalExact op a m c % 100).toNat, decimalCarry op (decimalExact op a m c)) := by
  rw [bcdResult_eq, decimalStored_of_isBcd ha hm, if_pos (by omega)]

theorem bcdValid_and_bcdValid (a m : Byte) : (bcdValid a && bcdValid m) = true ↔ IsBcd a ∧ IsBcd m := by
  rw [Bool.and_eq_true, bcdValid_iff, bcdValid_iff]

/-- R173, R176, R177: where the decimal result `r` is used. -/
theorem decimalResult_of_computed {c : Params} {a m : Byte} (h : IsBcd a ∧ IsBcd m ∨ c.decimalInvalid = .formula) (k : Nat)
    (r : Byte × Bool) (p : Flags) :
    decimalResult c k a m r p = (r.1, decimalNZV c.decimalFlags k r.1 { p with c := r.2 }) := by
  rw [← bcdValid_and_bcdValid] at h
  unfold decimalResult
  split
  case isTrue => rfl
  case isFalse hvalid => simp [h.resolve_left hvalid]

/-- R177: where A and the flags are free values. -/
theorem decimalResult_of_drawn {c : Params} {a m : Byte} (h : ¬ (IsBcd a ∧ IsBcd m)) (hinv : c.decimalInvalid = .draw) (k : Nat)
    (r : Byte × Bool) (p : Flags) : decimalResult c k a m r p = decimalDrawn k p := by
  rw [decimalResult, if_neg (mt (bcdValid_and_bcdValid a m).mp h), hinv]

/-- R178: the carry is not among the flags that `DecimalFlags` settles. -/
theorem decimalNZV_c (f : DecimalFlags) (k : Nat) (r : Byte) (p : Flags) : (decimalNZV f k r p).c = p.c := by cases f <;> rfl

/-- R178: N, Z and V are as `DecimalFlags` says, whatever the carry is. -/
theorem decimalFlagsAre_decimalNZV (r : Byte) (b : Bool) (s : State) :
    DecimalFlagsAre r (decimalNZV Config.params.decimalFlags s.draws r { s.p with c := b }) s := by
  unfold DecimalFlagsAre
  cases Config.params.decimalFlags with
  | draw => exact ⟨rfl, rfl, rfl⟩
  | fromResult => exact Flags.setNZ_eq_withNZ ..

/-- R171: ADC with D = 1 uses up four free values. -/
theorem adcByte_decimal {s t : State} (h : ReadFrame s t) (hd : s.p.d = true) (c : Params) (m : Byte) :
    adcByte c m t = (t.setResult (adcDecimal c s.draws s.a m s.p)).useDraws 4 := by
  simp [adcByte, h.a, h.p, h.draws, hd]

/-- R174: SBC with D = 1 uses up four free values. -/
theorem sbcByte_decimal {s t : State} (h : ReadFrame s t) (hd : s.p.d = true) (c : Params) (m : Byte) :
    sbcByte c m t = (t.setResult (sbcDecimal c s.draws s.a m s.p)).useDraws 4 := by
  simp [sbcByte, h.a, h.p, h.draws, hd]

/-- R171, R174: ADC and SBC with D = 1. -/
theorem exec_of_decimal {i : Instr} {s : State} (hd : s.p.d = true) (h : i.op = .adc ∨ i.op = .sbc) :
    ∃ m t, operandOf i s = some (m, t) ∧
      let q := decimalResult Config.params s.draws s.a m (bcdResult i.op s.draws s.a m s.p.c) s.p
      exec i s = .next { t with a := q.1, p := q.2, draws := s.draws + 4 } := by
  rcases h with h | h
  · obtain ⟨m, t, hm, ht, he⟩ := exec_of_withOperand (i := i) (g := adcByte) (by rw [h]; rfl) s
    exact ⟨m, t, hm, by rw [he, adcByte_decimal ht hd, h, ← ht.draws]; rfl⟩
  · obtain ⟨m, t, hm, ht, he⟩ := exec_of_withOperand (i := i) (g := sbcByte) (by rw [h]; rfl) s
    exact ⟨m, t, hm, by rw [he, sbcByte_decimal ht hd, h, ← ht.draws]; rfl⟩

end Sys2Proof.Machine

open Sys2Proof Sys2Proof.Machine

/-- Settles O38: of valid BCD bytes the decimal result is the exact one mod 100. -/
theorem decimalAddAndSubtract : Obligations.DecimalAddAndSubtract := by
  unfold Obligations.DecimalAddAndSubtract
  intro i s hd hop
  obtain ⟨m, t, hm, he⟩ := exec_of_decimal hd hop
  refine ⟨m, t, hm, fun hba hbm => ?_⟩
  rw [decimalResult_of_computed (.inl ⟨hba, hbm⟩), bcdResult_of_isBcd hba hbm] at he
  exact ⟨_, he, decimalNZV_c .., (decimalNZV_d ..).trans hd, decimalNZV_i .., decimalFlagsAre_decimalNZV ..⟩

/-- Settles O39: where a byte is not valid BCD everything is drawn, or computed by the formula. -/
theorem decimalOfInvalidBcdCompletes : Obligations.DecimalOfInvalidBcdCompletes := by
  unfold Obligations.DecimalOfInvalidBcdCompletes
  intro i s hd hop
  obtain ⟨m, t, hm, he⟩ := exec_of_decimal hd hop
  obtain ⟨hi, hd'⟩ := decimalResult_id Config.params s.draws s.a m (bcdResult i.op s.draws s.a m s.p.c) s.p
  refine ⟨m, t, hm, fun hbcd => ⟨_, _, he, hd'.trans hd, hi, ?_⟩⟩
  cases hinv : Config.params.decimalInvalid with
  | draw =>
    rw [decimalResult_of_drawn hbcd hinv]
    exact ⟨rfl, rfl, rfl, rfl, rfl⟩
  | formula =>
    rw [decimalResult_of_computed (.inr hinv), bcdResult_eq]
    exact ⟨decimalNZV_c .., rfl, decimalFlagsAre_decimalNZV ..⟩

end

section
/-! Compares, increments and decrements (R179–R188). Settles `ComparesSetCarryZeroNegative` and `IncrementsAndDecrements`. -/

namespace Sys2Proof.Machine

/-- R179: the flags of an unsigned compare in plain arithmetic. -/
theorem Flags.compare_eq (r m : Byte) (p : Flags) : p.compare r m = { p with
    c := decide (m.toNat ≤ r.toNat)
    z := decide (r = m)
    n := decide (128 ≤ (r.toNat + 256 - m.toNat) % 256) } := by
  have hm := m.isLt
  have hz : (r - m == 0) = decide (r = m) := by
    rw [Bool.eq_iff_iff, beq_iff_eq, sub_eq_zero, decide_eq_true_iff]
  have hn : (r - m).getLsbD 7 = decide (128 ≤ (r.toNat + 256 - m.toNat) % 256) := by
    have hsub : (r - m).toNat = (r.toNat + 256 - m.toNat) % 256 := by rw [BitVec.toNat_sub]; omega
    rw [← hsub]
    exact BitVec.msb_eq_decide (r - m)
  simp only [Flags.compare, Flags.setNZ, hz, hn, ge_iff_le]

/-- R180–R182: a read operation that compares a register, which the read keeps, with the byte. -/
theorem exec_of_compare {i : Instr} {reg : State → Byte} (hreg : ∀ s t, ReadFrame s t → reg t = reg s)
    (h : readMeaning i.op = some fun c o => withOperand c o fun m u => u.setP (u.p.compare (reg u) m)) (s : State) :
    HasRuleForm i ∧ ∃ m t, operandOf i s = some (m, t) ∧ exec i s = .next (t.setP (s.p.compare (reg s) m)) := by
  obtain ⟨m, t, hm, ht, he⟩ := exec_of_withOperand h s
  exact ⟨hasRuleForm_of_readMeaning h, m, t, hm, by rw [he, hreg s t ht, ht.p]⟩

/-- Of the settled operations the shifts alone have a form on the accumulator. -/
theorem Effect.operand_ne_acc {s t : State} {op : Op} {o : Operand} (h : Effect s op o t) (hshift : op ∉ [.asl, .lsr, .rol, .ror])
    (huns : op ≠ .unsettled) : o ≠ .acc := by
  intro ho
  cases h with
  | read op o => cases o <;> cases ho
  | modifyA op hop => exact hshift hop
  | unsettled => exact huns rfl
  | _ => cases ho

/-- R140: a read-modify-write with no form on the accumulator is `modify` at its effective address. -/
theorem exec_of_modifier {i : Instr} {f : Byte → Byte → Flags → Byte × Flags} (hf : modifier i.op = some f)
    (hshift : i.op ∉ [.asl, .lsr, .rol, .ror]) (s : State) :
    HasRuleForm i ∧ ∃ m, i.operand = .data m ∧ exec i s = .next (modify Config.params m (f s.a) s) := by
  have hill : i.op ≠ .illegal := fun h => by simp [h, modifier] at hf
  have huns : i.op ≠ .unsettled := fun h => by simp [h, modifier] at hf
  obtain ⟨t, hexec, he⟩ := exec_effect i s
  refine ⟨hasRuleForm_of_settled hill huns, ?_⟩
  rcases he.store_or_modify (mem_addressedWriters_of_modifier hf) with ⟨r, m, hr, -, -⟩ | ⟨g, hg, ⟨m, ho, rfl⟩ | ⟨ho, -⟩⟩
  · simp [modifier_eq_none_of_storedRegister hr] at hf
  · obtain rfl : f = g := Option.some.inj (hf.symm.trans hg)
    exact ⟨m, ho, hexec⟩
  · exact absurd ho (he.operand_ne_acc hshift huns)

/-- R140, R183, R184: a read-modify-write that writes back `v` of the byte at the effective address and sets N and Z of it. -/
theorem exec_of_memoryResult {i : Instr} {v : Byte → Byte} (hf : modifier i.op = some fun _ b p => (v b, p.setNZ (v b)))
    (hshift : i.op ∉ [.asl, .lsr, .rol, .ror]) (s : State) :
    HasRuleForm i ∧ ∃ m, i.operand = .data m ∧
      let e := effAddr Config.params m s
      let r := busRead e.1 e.2
      exec i s = .next ((busWrite Config.params e.1 (v r.1) r.2).setP (withNZ (v r.1) s.p)) := by
  obtain ⟨hform, m, ho, he⟩ := exec_of_modifier hf hshift s
  exact ⟨hform, m, ho, by simp only [he, modify, Flags.setNZ_eq_withNZ, busRead_p, effAddr_p]⟩

end Sys2Proof.Machine

open Sys2Proof Sys2Proof.Machine

/-- Settles O41: each compare is `exec_of_compare` with its register. -/
theorem comparesSetCarryZeroNegative : Obligations.ComparesSetCarryZeroNegative := by
  unfold Obligations.ComparesSetCarryZeroNegative
  intro i s h
  simp only [← Flags.compare_eq]
  simp only [List.mem_cons, List.not_mem_nil, or_false] at h
  rcases h with h | h | h <;> simp only [h, reduceCtorEq, if_true, if_false]
  · exact exec_of_compare (reg := State.a) (fun _ _ => ReadFrame.a) (by rw [h]; rfl) s
  · exact exec_of_compare (reg := State.x) (fun _ _ => ReadFrame.x) (by rw [h]; rfl) s
  · exact exec_of_compare (reg := State.y) (fun _ _ => ReadFrame.y) (by rw [h]; rfl) s

/-- Settles O42: INC and DEC are `exec_of_memoryResult`, the four on X and Y are `exec_of_registerResult`. -/
theorem incrementsAndDecrements : Obligations.IncrementsAndDecrements := by
  unfold Obligations.IncrementsAndDecrements
  refine ⟨fun i s h => ?_, fun i hi => hasRuleForm_of_settled (by revert i; decide) (by revert i; decide),
    fun s => ⟨?_, ?_, ?_, ?_⟩⟩
  · rcases h with h | h <;> simp only [h, reduceCtorEq, if_true, if_false]
    · exact exec_of_memoryResult (v := (· + 1)) (by rw [h]; rfl) (by simp [h]) s
    · exact exec_of_memoryResult (v := (· - 1)) (by rw [h]; rfl) (by simp [h]) s
  · exact exec_of_registerResult (put := State.setX) (v := fun u => u.x + 1) (fun _ _ => rfl) rfl s
  · exact exec_of_registerResult (put := State.setY) (v := fun u => u.y + 1) (fun _ _ => rfl) rfl s
  · exact exec_of_registerResult (put := State.setX) (v := fun u => u.x - 1) (fun _ _ => rfl) rfl s
  · exact exec_of_registerResult (put := State.setY) (v := fun u => u.y - 1) (fun _ _ => rfl) rfl s

end

section
/-! Bit tests, shifts and rotates (R200, R204–R210): each byte operation in plain arithmetic. Settles `ShiftsAndRotates`,
`BitTestsTheOperand`, `TestAndModifyBits` and `RotatesUndoEachOther`. -/

namespace Sys2Proof.Machine

/-! ### The byte operations in plain arithmetic -/

/-- R204: BIT's flags with Z as a plain test. -/
theorem Flags.bitTest_eq (a m : Byte) (p : Flags) : p.bitTest a m = { p with
    n := m.toNat.testBit 7
    v := m.toNat.testBit 6
    z := decide (a &&& m = 0) } := by
  rw [Flags.bitTest, beq_eq_decide]
  rfl

/-- R205, R207: the bit that a shift to the left moves out. -/
theorem getLsbD_seven (v : Byte) : v.getLsbD 7 = decide (128 ≤ v.toNat) := BitVec.msb_eq_decide v

/-- R206, R208: the bit that a shift to the right moves out. -/
theorem getLsbD_zero (v : Byte) : v.getLsbD 0 = decide (v.toNat % 2 = 1) := Nat.testBit_zero v.toNat

theorem toNat_shiftLeft_one (v : Byte) : (v <<< 1).toNat = 2 * v.toNat % 256 := by
  rw [BitVec.toNat_shiftLeft, Nat.shiftLeft_eq, Nat.mul_comm]

theorem toNat_shiftRight_one (v : Byte) : (v >>> 1).toNat = v.toNat / 2 := by
  rw [BitVec.toNat_ushiftRight, Nat.shiftRight_eq_div_pow]

/-- R207, R208: a carry put into a bit that is clear is added. -/
theorem or_bitAt {v : Byte} {k : Nat} (h : v.getLsbD k = false) (c : Bool) : v ||| bitAt c k = v + bitAt c k := by
  refine (BitVec.add_eq_or_of_and_eq_zero _ _ ?_).symm
  cases c
  · exact BitVec.and_zero
  · exact (BitVec.and_twoPow v k).trans (by rw [h]; rfl)

/-- R207: the shift to the left has cleared bit 0. -/
theorem toNat_shiftLeft_or_carry (v : Byte) (c : Bool) : (v <<< 1 ||| bitAt c 0).toNat = (2 * v.toNat + c.toNat) % 256 := by
  have hbit : (bitAt c 0).toNat = c.toNat := by cases c <;> rfl
  rw [or_bitAt (by simp), BitVec.toNat_add, toNat_shiftLeft_one, hbit, Nat.mod_add_mod]

/-- R208: the shift to the right has cleared bit 7. -/
theorem toNat_shiftRight_or_carry (v : Byte) (c : Bool) : (v >>> 1 ||| bitAt c 7).toNat = v.toNat / 2 + 128 * c.toNat := by
  have hv := v.isLt
  have hc := c.toNat_lt
  have hbit : (bitAt c 7).toNat = 128 * c.toNat := by cases c <;> rfl
  rw [or_bitAt (by simp), BitVec.toNat_add, toNat_shiftRight_one, hbit]
  omega

/-- R205–R208: a shift or rotate by `shiftRule`: the byte, C the bit shifted out, and N and Z of the byte. -/
def shiftByRule (op : Op) (v : Byte) (p : Flags) : Byte × Flags :=
  let r := shiftRule op v.toNat p.c.toNat
  (BitVec.ofNat 8 r.1, withNZ (BitVec.ofNat 8 r.1) { p with c := r.2 })

/-- R200: a result and a bit shifted out that have the rule's values give the rule's byte and flags. -/
theorem shiftResult_eq_shiftByRule {op : Op} {r v : Byte} {out : Bool} {p : Flags}
    (h : shiftRule op v.toNat p.c.toNat = (r.toNat, out)) : shiftResult r out p = shiftByRule op v p := by
  simp only [shiftByRule, h, shiftResult, Flags.setNZ_eq_withNZ, BitVec.ofNat_toNat, BitVec.setWidth_eq]

theorem aslByte_eq (v : Byte) (p : Flags) : aslByte v p = shiftByRule .asl v p :=
  shiftResult_eq_shiftByRule (by rw [toNat_shiftLeft_one, getLsbD_seven]; rfl)

theorem lsrByte_eq (v : Byte) (p : Flags) : lsrByte v p = shiftByRule .lsr v p :=
  shiftResult_eq_shiftByRule (by rw [toNat_shiftRight_one, getLsbD_zero]; rfl)

theorem rolByte_eq (v : Byte) (p : Flags) : rolByte v p = shiftByRule .rol v p :=
  shiftResult_eq_shiftByRule (by rw [toNat_shiftLeft_or_carry, getLsbD_seven]; rfl)

theorem rorByte_eq (v : Byte) (p : Flags) : rorByte v p = shiftByRule .ror v p :=
  shiftResult_eq_shiftByRule (by rw [toNat_shiftRight_or_carry, getLsbD_zero]; rfl)

/-! ### Rotates and the carry -/

theorem toNat_decide (P : Prop) [Decidable P] : (decide P).toNat = if P then 1 else 0 := Bool.cond_decide P 1 0

theorem decide_eq_iff_toNat_eq_one {P : Prop} [Decidable P] {c : Bool} : decide P = c ↔ (P ↔ c.toNat = 1) := by
  rw [Bool.eq_iff_iff, decide_eq_true_iff, Bool.toNat_eq_one]

@[simp] theorem toNat_rolByte (v : Byte) (p : Flags) : (rolByte v p).1.toNat = (2 * v.toNat + p.c.toNat) % 256 :=
  toNat_shiftLeft_or_carry v p.c

@[simp] theorem rolByte_c (v : Byte) (p : Flags) : (rolByte v p).2.c = decide (128 ≤ v.toNat) := getLsbD_seven v

@[simp] theorem toNat_rorByte (v : Byte) (p : Flags) : (rorByte v p).1.toNat = v.toNat / 2 + 128 * p.c.toNat :=
  toNat_shiftRight_or_carry v p.c

@[simp] theorem rorByte_c (v : Byte) (p : Flags) : (rorByte v p).2.c = decide (v.toNat % 2 = 1) := getLsbD_zero v

/-! ### The instructions -/

/-- R205–R208: the shifts and rotates are read-modify-writes by `shiftRule`, which do not use A beside the byte. -/
theorem modifier_of_shift {op : Op} (h : op ∈ [.asl, .lsr, .rol, .ror]) : modifier op = some fun _ => shiftByRule op := by
  simp only [List.mem_cons, List.not_mem_nil, or_false] at h
  rcases h with rfl | rfl | rfl | rfl
  · exact congrArg some (funext fun _ => funext₂ aslByte_eq)
  · exact congrArg some (funext fun _ => funext₂ lsrByte_eq)
  · exact congrArg some (funext fun _ => funext₂ rolByte_eq)
  · exact congrArg some (funext fun _ => funext₂ rorByte_eq)

/-- R140: the effect of a read-modify-write. -/
theorem Effect.eq_modify {s t : State} {op : Op} {o : Operand} {f : Byte → Byte → Flags → Byte × Flags} (h : Effect s op o t)
    (hf : modifier op = some f) :
    (∃ m, o = .data m ∧ t = Machine.modify Config.params m (f s.a) s) ∨ o = .acc ∧ t = Machine.modifyA (f s.a) s := by
  rcases h.store_or_modify (mem_addressedWriters_of_modifier hf) with ⟨r, m, hr, -, -⟩ | ⟨g, hg, h⟩
  · simp [modifier_eq_none_of_storedRegister hr] at hf
  · obtain rfl : f = g := Option.some.inj (hf.symm.trans hg)
    exact h

/-- R140: a read and a write at the effective address, with the byte and the flags made from the flags before the instruction. -/
theorem modify_eq (c : Params) (m : DataMode) (f : Byte → Flags → Byte × Flags) (s : State) :
    let e := effAddr c m s
    let r := busRead e.1 e.2
    modify c m f s = (busWrite c e.1 (f r.1 s.p).1 r.2).setP (f r.1 s.p).2 := by
  simp only [modify, busRead_p, effAddr_p]

end Sys2Proof.Machine

open Sys2Proof Sys2Proof.Machine

/-- Settles O45: the one effect of a shift or rotate on its operand, with `shiftByRule` as the change of the byte. -/
theorem shiftsAndRotates : Obligations.ShiftsAndRotates := by
  unfold Obligations.ShiftsAndRotates
  intro i s hop
  obtain ⟨t, hexec, he⟩ := exec_effect i s
  have heffect := he.eq_modify (modifier_of_shift hop)
  refine ⟨hasRuleForm_of_settled (ne_of_mem_of_not_mem hop (by decide)) (ne_of_mem_of_not_mem hop (by decide)),
    fun ho => ?_, fun m ho => ?_⟩
  · rcases heffect with ⟨m, hm, -⟩ | ⟨-, rfl⟩
    · simp [ho] at hm
    · exact hexec
  · rcases heffect with ⟨m', hm, rfl⟩ | ⟨hacc, -⟩
    · obtain rfl : m = m' := by simpa [ho] using hm
      rw [hexec, modify_eq]
      rfl
    · simp [ho] at hacc

/-- Settles O44: BIT is a read operation that writes the flags of `Flags.bitTest`. -/
theorem bitTestsTheOperand : Obligations.BitTestsTheOperand := by
  unfold Obligations.BitTestsTheOperand
  intro i s h
  have hop : readMeaning i.op = some bitA := by rw [h]; rfl
  obtain ⟨m, t, hm, ht, he⟩ := exec_of_withOperand (g := fun _ m u => u.setP (u.p.bitTest u.a m)) hop s
  rw [ht.p, ht.a, Flags.bitTest_eq] at he
  exact ⟨hasRuleForm_of_readMeaning hop, m, t, hm, he⟩

/-- Settles O47: TSB and TRB are read-modify-writes of memory with the bits of A. -/
theorem testAndModifyBits : Obligations.TestAndModifyBits := by
  unfold Obligations.TestAndModifyBits
  intro i s h
  rcases h with h | h <;> simp only [h, reduceCtorEq, if_true, if_false]
  · obtain ⟨hform, m, ho, he⟩ := exec_of_modifier (f := tsbByte) (by rw [h]; rfl) (by simp [h]) s
    refine ⟨hform, m, ho, ?_⟩
    rw [he, modify_eq, tsbByte, beq_eq_decide]
    rfl
  · obtain ⟨hform, m, ho, he⟩ := exec_of_modifier (f := trbByte) (by rw [h]; rfl) (by simp [h]) s
    refine ⟨hform, m, ho, ?_⟩
    rw [he, modify_eq, trbByte, beq_eq_decide]
    rfl

/-- Settles O46: the bit that a rotate shifts out is the carry that the other shifts back in. -/
theorem rotatesUndoEachOther : Obligations.RotatesUndoEachOther := by
  unfold Obligations.RotatesUndoEachOther
  intro v p
  have hv := v.isLt
  have hc := p.c.toNat_lt
  refine ⟨BitVec.eq_of_toNat_eq ?_, ?_, BitVec.eq_of_toNat_eq ?_, ?_⟩
  · rw [toNat_rorByte, toNat_rolByte, rolByte_c, toNat_decide]
    split <;> omega
  · rw [rorByte_c, toNat_rolByte, decide_eq_iff_toNat_eq_one]
    omega
  · rw [toNat_rolByte, toNat_rorByte, rorByte_c, toNat_decide]
    split <;> omega
  · rw [rolByte_c, toNat_rorByte, decide_eq_iff_toNat_eq_one]
    omega

end

section
/-! Branches (R137, R230–R239): the effect of a branch and its target in plain arithmetic. Settles
`BranchesMovePcByTheDisplacement`. -/

namespace Sys2Proof.Machine

/-- R137: the displacement is signed, and the sum is taken mod 2^16. -/
theorem branchTarget_eq_ofInt (pc : Word) (d : Byte) : branchTarget pc d = BitVec.ofInt 16 (pc.toNat + d.toInt) := by
  rw [BitVec.ofInt_add, BitVec.ofInt_natCast, BitVec.ofNat_toNat, BitVec.setWidth_eq]
  rfl

/-- R230: a branch changes PC alone, and only where its predicate holds. -/
theorem branch_eq (b : Bool) (d : Byte) (s : State) :
    branch b d s = { s with pc := if b = true then BitVec.ofInt 16 (s.pc.toNat + d.toInt) else s.pc } := by
  cases b with
  | false => rfl
  | true => exact congrArg (fun w => s.setPc w) (branchTarget_eq_ofInt s.pc d)

/-- The meanings of reads, stores, read-modify-writes and register operations leave the branches out. -/
theorem meanings_eq_none_of_branch {op : Op} (h : op ∈ [.bpl, .bmi, .bvc, .bvs, .bcc, .bcs, .bne, .beq, .bra]) :
    readMeaning op = none ∧ storedRegister op = none ∧ modifier op = none ∧ registerMeaning op = none := by
  cases op with
  | bpl | bmi | bvc | bvs | bcc | bcs | bne | beq | bra => exact ⟨rfl, rfl, rfl, rfl⟩
  | _ => simp at h

/-- R231–R239: the effect of a branch. -/
theorem Effect.eq_branch {s t : State} {op : Op} {o : Operand} (h : Effect s op o t)
    (hop : op ∈ [.bpl, .bmi, .bvc, .bvs, .bcc, .bcs, .bne, .beq, .bra]) :
    ∃ d, o = .rel d ∧ t = Machine.branch (branchTaken op s.p) d s := by
  obtain ⟨hread, hstore, hmodify, hregister⟩ := meanings_eq_none_of_branch hop
  cases h with
  | branch op d => exact ⟨d, rfl, rfl⟩
  | read op o hf => simp [hread] at hf
  | store op m hr => simp [hstore] at hr
  | modify op m hf => simp [hmodify] at hf
  | modifyA op _ hf => simp [hmodify] at hf
  | register op hf => simp [hregister] at hf
  | jmpAbs | jmpInd | jmpAbsIndX | pha | php | pla | plp | jsr | rts | brk | rti | illegal | unsettled =>
    exact absurd hop (by decide)

end Sys2Proof.Machine

open Sys2Proof Sys2Proof.Machine

/-- Settles O48: the effect of a branch is `branch` at its predicate, which `branch_eq` gives in plain arithmetic. -/
theorem branchesMovePcByTheDisplacement : Obligations.BranchesMovePcByTheDisplacement := by
  unfold Obligations.BranchesMovePcByTheDisplacement
  intro i s hop
  obtain ⟨t, hexec, heffect⟩ := exec_effect i s
  obtain ⟨d, hd, rfl⟩ := heffect.eq_branch hop
  refine ⟨hasRuleForm_of_settled ?_ ?_, d, hd, hexec.trans (congrArg Host.Outcome.next (branch_eq ..))⟩
  · exact fun h => by simp [h] at hop
  · exact fun h => by simp [h] at hop

end

section
/-! The stack and subroutines (R35, R36, R250–R259): pushes and pulls in plain arithmetic, what a pull finds after a push, and the
bytes a push leaves. Settles `PushesChangeOnlyTheirStackSlots`, `PushesAndPulls`, `PullUndoesPush`, `SubroutineCallAndReturn` and
`ReturnResumesAfterTheCall`. -/

namespace Sys2Proof.Machine

/-! ### Pushed bytes and words in plain arithmetic -/

/-- R35: the status byte of a push as a sum. -/
theorem Flags.pack_eq_statusByte (b : Bool) (p : Flags) : p.pack b = statusByte b p := by
  obtain ⟨n, v, d, i, z, c⟩ := p
  revert b n v d i z c
  decide

/-- R36: the flags of a pulled status byte as its bits. -/
theorem Flags.unpack_eq_statusFlags (v : Byte) : Flags.unpack v = statusFlags v := rfl

theorem highByte_eq_ofNat (w : Word) : highByte w = BitVec.ofNat 8 (w.toNat / 256) := by
  rw [← highByte_toNat, BitVec.ofNat_toNat, BitVec.setWidth_eq]

theorem lowByte_eq_ofNat (w : Word) : lowByte w = BitVec.ofNat 8 (w.toNat % 256) := by
  rw [← lowByte_toNat, BitVec.ofNat_toNat, BitVec.setWidth_eq]

/-- R252: a pushed word in plain arithmetic, its high byte at the higher address. -/
theorem push16_eq_ofNat (c : Params) (w : Word) (s : State) : push16 c w s = { s with
    mem := (s.mem.write (stackAddr s.sp) (BitVec.ofNat 8 (w.toNat / 256))).write
      (stackAddr (s.sp - 1)) (BitVec.ofNat 8 (w.toNat % 256))
    sp := s.sp - 2 } := by
  have hsp : s.sp - 1 - 1 = s.sp - 2 := sub_sub s.sp 1 1
  rw [push16_eq, highByte_eq_ofNat, lowByte_eq_ofNat, hsp]
  rfl

/-- R253: a pulled word in plain arithmetic, its low byte from the lower address. -/
theorem pop16_eq_ofNat (s : State) : pop16 s =
    (BitVec.ofNat 16 ((s.mem.read (stackAddr (s.sp + 1))).toNat + 256 * (s.mem.read (stackAddr (s.sp + 2))).toNat),
      { s with sp := s.sp + 2 }) := by
  have hsp : s.sp + 1 + 1 = s.sp + 2 := add_assoc s.sp 1 1
  rw [pop16_eq, wordOf_eq_ofNat, hsp]
  rfl

/-! ### A pull after a push -/

section
variable {s u : State} (hs : s.Inv) {c : Params}
include hs

/-- R253: wherever memory and SP are as the push of a byte left them, a pull gives the byte and SP before the push. -/
theorem pop_of_push {v : Byte} (hmem : u.mem = (push c v s).mem) (hsp : u.sp = (push c v s).sp) :
    pop u = (v, u.setSp s.sp) := by
  rw [push_eq] at hmem hsp
  have hup : u.sp + 1 = s.sp := hsp ▸ sub_add_cancel s.sp 1
  rw [pop_eq, hup, hmem, State.setSp_mem, State.setMem_mem, Memory.read_write (Memory.rising_of_wf hs.1), if_pos rfl]

/-- R253: wherever memory and SP are as the push of a word left them, a pull gives the word and SP before the push. -/
theorem pop16_of_push16 {w : Word} (hmem : u.mem = (push16 c w s).mem) (hsp : u.sp = (push16 c w s).sp) :
    pop16 u = (w, u.setSp s.sp) := by
  rw [push16_eq] at hmem hsp
  have hrising := Memory.rising_of_wf hs.1
  have hlow : u.sp + 1 = s.sp - 1 := hsp ▸ sub_add_cancel (s.sp - 1) 1
  have hhigh : u.sp + 1 + 1 = s.sp := hlow ▸ sub_add_cancel s.sp 1
  have hne : stackAddr s.sp ≠ stackAddr (s.sp - 1) := fun h => absurd (stackAddr_inj.mp h) (by bv_omega)
  rw [pop16_eq, hhigh, hlow, hmem, State.setSp_mem, State.setMem_mem, Memory.read_write (Memory.rising_write hrising ..),
    Memory.read_write (Memory.rising_write hrising ..), if_neg hne, if_pos rfl, Memory.read_write hrising, if_pos rfl,
    wordOf_bytes]

/-! ### What a push leaves unchanged -/

/-- R250: a push writes its one slot. -/
theorem push_read_of_ne {b : Nat} (hb : b ≠ stackAddr s.sp) (v : Byte) : (push c v s).mem.read b = s.mem.read b := by
  rw [push_eq, State.setSp_mem, State.setMem_mem, Memory.read_write (Memory.rising_of_wf hs.1), if_neg hb]

/-- R252: the push of a word writes its two slots. -/
theorem push16_read_of_ne {b : Nat} (hhigh : b ≠ stackAddr s.sp) (hlow : b ≠ stackAddr (s.sp - 1)) (w : Word) :
    (push16 c w s).mem.read b = s.mem.read b := by
  have hsp : (push c (highByte w) s).sp = s.sp - 1 := by rw [push_eq, State.setSp_sp]
  rw [push16, push_read_of_ne (push_inv c hs _) (hsp ▸ hlow), push_read_of_ne hs hhigh]

/-- R322: taking an interrupt writes the three slots of the return address and the status byte. -/
theorem enterInterrupt_read_of_ne {b : Nat} (hhigh : b ≠ stackAddr s.sp) (hlow : b ≠ stackAddr (s.sp - 1))
    (hstatus : b ≠ stackAddr (s.sp - 2)) (ret : Word) (brk : Bool) :
    (enterInterrupt c ret brk s).mem.read b = s.mem.read b := by
  have hsp : (push16 c ret s).sp = s.sp - 2 := by rw [push16_eq_ofNat]
  rw [enterInterrupt_eq, State.setPc_mem, State.setP_mem, push_read_of_ne (push16_inv c hs ret) (hsp ▸ hstatus),
    push16_read_of_ne hs hhigh hlow]

end

/-- R250, R252, R278: the state `t` after an instruction `op` that pushes differs from the state `s` before in memory and SP, in
the flags for BRK alone, and in PC for JSR and BRK alone. -/
structure PushFrame (op : Op) (s t : State) : Prop where
  rest : ∃ m sp pc p, t = { s with mem := m, sp := sp, pc := pc, p := p }
  p : op ≠ .brk → t.p = s.p
  pc : op ∈ [.pha, .php] → t.pc = s.pc

/-- R254, R255, R258, R278: what an instruction that pushes does. -/
theorem eq_of_pusher {i : Instr} {s t : State} (h : i.op ∈ pushers) (hexec : exec i s = .next t) :
    (∃ v, t = push Config.params v s) ∨ (i.op = .jsr ∧ ∃ w, t = jumpSubroutine Config.params w s) ∨
    i.op = .brk ∧ t = enterInterrupt Config.params (s.pc + 1) true s := by
  cases i with
  | pha | php => cases hexec; exact .inl ⟨_, rfl⟩
  | jsr w => cases hexec; exact .inr (.inl ⟨rfl, w, rfl⟩)
  | brk => cases hexec; exact .inr (.inr ⟨rfl, rfl⟩)
  | _ => cases List.elem_eq_true_of_mem h

/-- An instruction that pushes keeps what `PushFrame` says. -/
theorem pushers_frame {i : Instr} {s t : State} (h : i.op ∈ pushers) (hexec : exec i s = .next t) : PushFrame i.op s t := by
  rcases eq_of_pusher h hexec with ⟨v, rfl⟩ | ⟨hop, w, rfl⟩ | ⟨hop, rfl⟩
  · rw [push_eq]
    exact ⟨⟨_, _, _, _, rfl⟩, fun _ => rfl, fun _ => rfl⟩
  · rw [jumpSubroutine, push16_eq]
    exact ⟨⟨_, _, _, _, rfl⟩, fun _ => rfl, fun h => by simp [hop] at h⟩
  · rw [enterInterrupt_eq, push16_eq, push_eq]
    exact ⟨⟨_, _, _, _, rfl⟩, fun h => absurd hop h, fun h => by simp [hop] at h⟩

/-- R250, R252, R278: an instruction that pushes changes no byte but those of its slots. -/
theorem pushers_read_of_ne {i : Instr} {s t : State} (hs : s.Inv) (h : i.op ∈ pushers) (hexec : exec i s = .next t) {b : Nat}
    (hfirst : b ≠ stackAddr s.sp) (hsecond : i.op ∈ [.jsr, .brk] → b ≠ stackAddr (s.sp - 1))
    (hthird : i.op = .brk → b ≠ stackAddr (s.sp - 2)) : t.mem.read b = s.mem.read b := by
  rcases eq_of_pusher h hexec with ⟨v, rfl⟩ | ⟨hop, w, rfl⟩ | ⟨hop, rfl⟩
  · exact push_read_of_ne hs hfirst v
  · exact push16_read_of_ne hs hfirst (hsecond (by simp [hop])) (s.pc - 1)
  · exact enterInterrupt_read_of_ne hs hfirst (hsecond (by simp [hop])) (hthird hop) (s.pc + 1) true

end Sys2Proof.Machine

open Sys2Proof Sys2Proof.Machine

/-- Settles O21: the bytes by `pushers_read_of_ne`, and everything else by `PushFrame`. -/
theorem pushesChangeOnlyTheirStackSlots : Obligations.PushesChangeOnlyTheirStackSlots := by
  unfold Obligations.PushesChangeOnlyTheirStackSlots
  intro i s t b hs hop hexec hfirst hsecond hthird
  have hread := pushers_read_of_ne hs hop hexec hfirst hsecond hthird
  obtain ⟨⟨m, sp, pc, p, rfl⟩, hp, hpc⟩ := pushers_frame hop hexec
  exact ⟨hread, rfl, rfl, rfl, rfl, rfl, rfl, rfl, rfl, rfl, rfl, rfl, hp, hpc⟩

/-- Settles O50: a push and a pull of a byte by `push_eq` and `pop_eq`, with the status byte in plain arithmetic. -/
theorem pushesAndPulls : Obligations.PushesAndPulls := by
  unfold Obligations.PushesAndPulls
  refine ⟨fun i hi => hasRuleForm_of_settled (by revert i; decide) (by revert i; decide), fun s => ⟨?_, ?_, ?_, ?_⟩⟩
  · exact congrArg Host.Outcome.next (push_eq Config.params s s.a)
  · refine congrArg Host.Outcome.next ?_
    rw [Flags.pack_eq_statusByte, push_eq]
    rfl
  · refine congrArg Host.Outcome.next ?_
    rw [pullA, pop_eq, State.setNZ_eq_setP_withNZ]
    rfl
  · refine congrArg Host.Outcome.next ?_
    rw [pullP, pop_eq, Flags.unpack_eq_statusFlags]
    rfl

/-- Settles O51: `pop_of_push` and `pop16_of_push16` at the state that the push itself left. -/
theorem pullUndoesPush : Obligations.PullUndoesPush := by
  unfold Obligations.PullUndoesPush
  intro c v w s
  refine ⟨pop16_eq_ofNat s, fun hs => ?_⟩
  rw [pop_of_push hs rfl rfl, pop16_of_push16 hs rfl rfl]
  exact ⟨rfl, rfl, rfl, rfl⟩

/-- Settles O52: JSR is the push of a word and RTS the pull of one, both in plain arithmetic. -/
theorem subroutineCallAndReturn : Obligations.SubroutineCallAndReturn := by
  unfold Obligations.SubroutineCallAndReturn
  refine ⟨hasRuleForm_of_settled (by decide) (by decide), hasRuleForm_of_settled (by decide) (by decide), fun w s => ⟨?_, ?_⟩⟩
  · exact congrArg (fun t => Host.Outcome.next (t.setPc w)) (push16_eq_ofNat Config.params (s.pc - 1) s)
  · exact congrArg (fun r => Host.Outcome.next (r.2.setPc (r.1 + 1))) (pop16_eq_ofNat s)

/-- Settles O53: RTS pulls the word that JSR pushed, the address of the JSR's last byte. -/
theorem returnResumesAfterTheCall : Obligations.ReturnResumesAfterTheCall := by
  unfold Obligations.ReturnResumesAfterTheCall
  intro w s t u v hs hcall hmem hsp hreturn
  cases hcall
  cases hreturn
  rw [returnSubroutine, pop16_of_push16 hs hmem hsp, sub_add_cancel]
  rfl

end

section
/-! Flag instructions, BRK and RTI, the illegal opcodes and the unsettled slots (R270–R279, R290, R291, R322–R324). Settles
`BreakAndReturnFromInterrupt`, `ReturnResumesAfterTheBreak`, `UnsettledSlotsHaltOrRun`, `IllegalOpcodeOnlyHalts` and
`FlagInstructions`. -/

namespace Sys2Proof.Machine

/-! ### Flag instructions (R270–R276) -/

/-- An instruction whose meaning is an update of the flags changes nothing else. -/
theorem exec_of_flagUpdate {i : Instr} {q : Flags → Flags} (h : registerMeaning i.op = some fun u => u.setP (q u.p)) (s : State) :
    exec i s = .next { s with p := q s.p } :=
  exec_of_registerMeaning h s

/-! ### Taking an interrupt and returning from one -/

/-- R322: taking an interrupt in plain arithmetic. -/
theorem enterInterrupt_eq_ofNat (c : Params) (ret : Word) (b : Bool) (s : State) : enterInterrupt c ret b s =
    let m := ((s.mem.write (stackAddr s.sp) (BitVec.ofNat 8 (ret.toNat / 256))).write
      (stackAddr (s.sp - 1)) (BitVec.ofNat 8 (ret.toNat % 256))).write (stackAddr (s.sp - 2)) (statusByte b s.p)
    { s with
      mem := m
      sp := s.sp - 3
      p := { s.p with i := true }
      pc := BitVec.ofNat 16 ((m.read 0xFFFE).toNat + 256 * (m.read 0xFFFF).toNat) } := by
  have hsp : s.sp - 2 - 1 = s.sp - 3 := sub_sub s.sp 2 1
  simp only [enterInterrupt_eq, Flags.pack_eq_statusByte, push16_eq_ofNat, push_eq, hsp, wordOf_eq_ofNat]
  rfl

/-- R279, R324: returning from an interrupt in plain arithmetic. -/
theorem returnFromInterrupt_eq_ofNat (s : State) : returnFromInterrupt s = { s with
    sp := s.sp + 3
    p := statusFlags (s.mem.read (stackAddr (s.sp + 1)))
    pc := BitVec.ofNat 16
      ((s.mem.read (stackAddr (s.sp + 2))).toNat + 256 * (s.mem.read (stackAddr (s.sp + 3))).toNat) } := by
  have hlow : s.sp + 1 + 1 = s.sp + 2 := add_assoc s.sp 1 1
  have hhigh : s.sp + 1 + 2 = s.sp + 3 := add_assoc s.sp 1 2
  simp only [returnFromInterrupt, pop_eq, pop16_eq_ofNat, State.setP_sp, State.setSp_sp, hlow, hhigh]
  rfl

/-- R35, R36: the flags of a status byte are those it was made of; bit 4 is discarded. -/
theorem Flags.unpack_pack (b : Bool) (p : Flags) : Flags.unpack (p.pack b) = p := by
  obtain ⟨n, v, d, i, z, c⟩ := p
  revert b n v d i z c
  decide

/-- R253: a pull of a word reads the two bytes above SP alone, so it does not depend on the byte at SP. -/
theorem pop16_of_read_eq {s t : State} (hsp : t.sp = s.sp)
    (hread : ∀ a, a ≠ stackAddr s.sp → t.mem.read a = s.mem.read a) : pop16 t = ((pop16 s).1, t.setSp (pop16 s).2.sp) := by
  have hlow : stackAddr (s.sp + 1) ≠ stackAddr s.sp := fun h => absurd (stackAddr_inj.mp h) (by bv_omega)
  have hhigh : stackAddr (s.sp + 1 + 1) ≠ stackAddr s.sp := fun h => absurd (stackAddr_inj.mp h) (by bv_omega)
  rw [pop16_eq, pop16_eq, hsp, hread _ hlow, hread _ hhigh, State.setSp_sp]

/-- R324: wherever memory and SP are as taking an interrupt left them, the return restores the flags and SP and resumes at the
return address. The pulled word lies above the slot of the status byte. -/
theorem returnFromInterrupt_of_enterInterrupt {s u : State} (hs : s.Inv) {c : Params} {ret : Word} {b : Bool}
    (hmem : u.mem = (enterInterrupt c ret b s).mem) (hsp : u.sp = (enterInterrupt c ret b s).sp) :
    returnFromInterrupt u = { u with pc := ret, sp := s.sp, p := s.p } := by
  rw [enterInterrupt_eq, State.setPc_mem, State.setP_mem] at hmem
  rw [enterInterrupt_eq, State.setPc_sp, State.setP_sp] at hsp
  have hcalled : (push16 c ret s).Inv := push16_inv c hs ret
  have hstatus : pop u = (s.p.pack b, u.setSp (push16 c ret s).sp) := pop_of_push hcalled hmem hsp
  have hread : ∀ a, a ≠ stackAddr (push16 c ret s).sp → u.mem.read a = (push16 c ret s).mem.read a := fun a ha => by
    rw [hmem, push_read_of_ne hcalled ha]
  have hword : pop16 ((u.setSp (push16 c ret s).sp).setP s.p) = _ := pop16_of_read_eq (s := push16 c ret s) rfl hread
  rw [returnFromInterrupt, hstatus, Flags.unpack_pack, hword, pop16_of_push16 hs rfl rfl]
  simp only [State.setPc, State.setSp, State.setP]

/-! ### Unsettled slots under `c02` (R291) -/

/-- R291: under `c02` an unsettled slot does the documented instruction. -/
theorem exec_of_c02 (hslot : Config.params.unnamedC02Slot = .c02) {i : Instr} (hop : i.op = .unsettled) (s : State) :
    exec i s = .next (slotBody Config.params i s) := by
  simp only [exec_eq_perform, perform, hop, unsettledSlot, hslot]

/-- R140: a result put into A with N and Z of it. -/
theorem modifyA_eq_withNZ (v : Byte → Byte) (s : State) :
    modifyA (fun b p => (v b, p.setNZ (v b))) s = { s with a := v s.a, p := withNZ (v s.a) s.p } := by
  rw [modifyA, Flags.setNZ_eq_withNZ]
  rfl

/-- R251, R256: a pulled byte put into a register with N and Z of it. -/
theorem pull_eq {put : Byte → State → State} (hput : ∀ v u, (put v u).p = u.p) (s : State) :
    let top := s.mem.read (stackAddr (s.sp + 1))
    (put (pop s).1 (pop s).2).setNZ (pop s).1 = (put top (s.setSp (s.sp + 1))).setP (withNZ top s.p) := by
  rw [pop_eq, State.setNZ_eq_setP_withNZ, hput]
  rfl

/-- R204: BIT with A and the flags of the state before the operand's read. -/
theorem bitA_eq (c : Params) (o : ReadOperand) (s : State) : bitA c o s =
    let r := loadOperand c o s
    { r.2 with p := { s.p with n := r.1.toNat.testBit 7, v := r.1.toNat.testBit 6, z := decide (s.a &&& r.1 = 0) } } := by
  rw [bitA, withOperand, Flags.bitTest_eq, loadOperand_a, loadOperand_p]
  rfl

theorem bitImmA_eq (m : Byte) (s : State) : bitImmA m s = { s with p := { s.p with z := decide (s.a &&& m = 0) } } := by
  rw [bitImmA, Flags.bitTestImm, beq_eq_decide]
  rfl

/-! ### Illegal opcodes (R290) -/

/-- R290: after an illegal opcode byte nothing more is fetched, and PC stays at it. -/
theorem fetchInstr_of_illegal {s : State} (h : (busRead s.pc.toNat s).1 ∈ illegalSlots) (c : Params) :
    fetchInstr c s = (.illegal (busRead s.pc.toNat s).1, (busRead s.pc.toNat s).2) := by
  have hnone : operandsFetched c (busRead s.pc.toNat s).1 = none := by
    rw [operandsFetched, decodeOpcode_illegal 0 0 _ h]
    rfl
  rw [fetchInstr, decodeOpcode_illegal _ _ _ h, hnone]
  rfl

end Sys2Proof.Machine

open Sys2Proof Sys2Proof.Machine

/-- Settles O55: taking the interrupt and returning from it in plain arithmetic. -/
theorem breakAndReturnFromInterrupt : Obligations.BreakAndReturnFromInterrupt := by
  unfold Obligations.BreakAndReturnFromInterrupt
  refine ⟨hasRuleForm_of_settled (by decide) (by decide), hasRuleForm_of_settled (by decide) (by decide), fun s => ⟨?_, ?_⟩⟩
  · exact congrArg Host.Outcome.next (enterInterrupt_eq_ofNat Config.params (s.pc + 1) true s)
  · exact congrArg Host.Outcome.next (returnFromInterrupt_eq_ofNat s)

/-- Settles O56: RTI finds the status byte and the return address that BRK pushed. -/
theorem returnResumesAfterTheBreak : Obligations.ReturnResumesAfterTheBreak := by
  unfold Obligations.ReturnResumesAfterTheBreak
  intro s t u v hs hbreak hmem hsp hreturn
  obtain rfl : enterInterrupt Config.params (s.pc + 1) true s = t := Host.Outcome.next.inj hbreak
  obtain rfl : returnFromInterrupt u = v := Host.Outcome.next.inj hreturn
  exact returnFromInterrupt_of_enterInterrupt hs hmem hsp

/-- Settles O57: a halting slot is one of `Halts`; under `c02` each body is given in plain arithmetic, and STZ is one bus write as it
stands. -/
theorem unsettledSlotsHaltOrRun : Obligations.UnsettledSlotsHaltOrRun := by
  unfold Obligations.UnsettledSlotsHaltOrRun
  split
  case h_1 hslot => exact fun i s hop => exec_of_halts (.inr ⟨hop, hslot⟩) s
  case h_2 hslot =>
    intro b w s
    have hexec {i : Instr} {t : State} (hop : i.op = .unsettled) (hbody : slotBody Config.params i s = t) : exec i s = .next t :=
      (exec_of_c02 hslot hop s).trans (congrArg Host.Outcome.next hbody)
    exact ⟨hexec rfl (modifyA_eq_withNZ (· + 1) s), hexec rfl (modifyA_eq_withNZ (· - 1) s),
      hexec rfl (push_eq Config.params s s.y), hexec rfl (push_eq Config.params s s.x),
      hexec rfl (pull_eq (put := State.setY) (fun _ _ => rfl) s),
      hexec rfl (pull_eq (put := State.setX) (fun _ _ => rfl) s),
      hexec rfl rfl, hexec rfl rfl, hexec rfl rfl, hexec rfl rfl,
      hexec rfl (bitA_eq Config.params (.data (.zpX b)) s), hexec rfl (bitA_eq Config.params (.data (.absX w)) s),
      hexec rfl (bitImmA_eq b s)⟩

/-- Settles O10: `exec` of an illegal opcode halts, and a step reaches it right after the read of its byte. -/
theorem illegalOpcodeOnlyHalts : Obligations.IllegalOpcodeOnlyHalts := by
  unfold Obligations.IllegalOpcodeOnlyHalts
  have hexec (op : Byte) (s : State) : exec (.illegal op) s = .next s.halt := exec_of_halts (.inl rfl) s
  refine ⟨hexec, fun s hs hop => ?_⟩
  rw [step_of_running hs, fetchInstr_of_illegal hop, hexec]
  rfl

/-- Settles O54: each instruction's meaning is the update of one flag, or none. -/
theorem flagInstructions : Obligations.FlagInstructions := by
  unfold Obligations.FlagInstructions
  refine ⟨fun i hi => hasRuleForm_of_settled (by revert i; decide) (by revert i; decide),
    fun s => ⟨?_, ?_, ?_, ?_, ?_, ?_, ?_, ?_⟩⟩
  · exact exec_of_flagUpdate (q := fun p => { p with c := false }) rfl s
  · exact exec_of_flagUpdate (q := fun p => { p with c := true }) rfl s
  · exact exec_of_flagUpdate (q := fun p => { p with i := false }) rfl s
  · exact exec_of_flagUpdate (q := fun p => { p with i := true }) rfl s
  · exact exec_of_flagUpdate (q := fun p => { p with d := false }) rfl s
  · exact exec_of_flagUpdate (q := fun p => { p with d := true }) rfl s
  · exact exec_of_flagUpdate (q := fun p => { p with v := false }) rfl s
  · exact exec_of_registerMeaning (f := id) rfl s

end

section
/-! The hardware-interrupt entry (R311–R313, R326). Settles `HardwareInterruptEntry`. -/

namespace Sys2Proof.Machine

/-- R312: while I is set the request is dropped. -/
theorem irq_of_masked {s : State} (h : s.p.i = true) (c : Params) : irq c s = s := if_pos h

/-- R311, R313, R326: otherwise the interrupt is taken, with one free value for bit 4 of the status byte. -/
theorem irq_of_unmasked {s : State} (h : s.p.i = false) (c : Params) :
    irq c s = enterInterrupt c (irqReturn c s.pc) (Config.drawBit s.draws) (s.useDraws 1) :=
  if_neg (Bool.eq_false_iff.mp h)

end Sys2Proof.Machine

open Sys2Proof Sys2Proof.Machine

/-- Settles O58: masked, nothing happens; taken, it is the interrupt that BRK shares, in plain arithmetic by
`enterInterrupt_eq_ofNat`. -/
theorem hardwareInterruptEntry : Obligations.HardwareInterruptEntry := by
  unfold Obligations.HardwareInterruptEntry
  refine fun c s => ⟨fun hmasked => irq_of_masked hmasked c, fun hunmasked => ?_⟩
  exact (irq_of_unmasked hunmasked c).trans (enterInterrupt_eq_ofNat c _ _ _)

end

section
/-! Steps and batches of steps (R301, R302, R353). Settles `EveryStepAnswersANextState` and `BatchesCompose`. -/

namespace Sys2Proof.Machine

/-- R301: a step of a halted engine answers the state itself, and any other step what its instruction answers. -/
theorem exists_step_eq_next (s : State) : ∃ t, step s = .next t := by
  cases hs : s.halted with
  | true => exact ⟨s, step_halted hs⟩
  | false => exact ⟨_, (step_of_running hs).trans (exec_eq_perform _ _)⟩

section
variable {f : State → Outcome} {s : State}

/-- R353: a batch of one ends with what its step answers. -/
theorem batch_one (h : s.halted = false) : batch f 1 s = f s := by
  cases hf : f s with
  | next t => rw [batch_succ_next h hf, batch_zero]
  | fault e => cases e
  | refused r => exact batch_succ_refused h hf

/-- R353: a batch that ends in a next state began with a step that did. -/
theorem batch_succ_eq_next {n : Nat} {t : State} (h : s.halted = false) (ht : batch f (n + 1) s = .next t) :
    ∃ u, f s = .next u ∧ batch f n u = .next t := by
  cases hf : f s with
  | next u => exact ⟨u, rfl, (batch_succ_next h hf).symm.trans ht⟩
  | fault e => cases e
  | refused r => cases (batch_succ_refused h hf).symm.trans ht

/-- R353: after a batch of `m` that ends in `t`, a batch of `m + n` goes on from `t`. Once the engine halts, both stay there. -/
theorem batch_add {m : Nat} (n : Nat) {t : State} (ht : batch f m s = .next t) : batch f (m + n) s = batch f n t := by
  induction m generalizing s with
  | zero =>
    cases ht
    rw [Nat.zero_add]
  | succ m ih =>
    cases hs : s.halted with
    | true =>
      obtain rfl : s = t := Host.Outcome.next.inj ((batch_halted hs).symm.trans ht)
      rw [batch_halted hs, batch_halted hs]
    | false =>
      obtain ⟨u, hu, hrest⟩ := batch_succ_eq_next hs ht
      rw [Nat.succ_add, batch_succ_next hs hu, ih hrest]

end

end Sys2Proof.Machine

open Sys2Proof Sys2Proof.Machine

/-- Settles O9: the dispatch answers a next state by `exec_eq_perform`, and so does every step. -/
theorem everyStepAnswersANextState : Obligations.EveryStepAnswersANextState :=
  ⟨fun i s => ⟨_, exec_eq_perform i s⟩, exists_step_eq_next⟩

/-- Settles O16: batches of `step` by `batch_one` and `batch_add`, and a refusal under a setting by `batch_succ_refused`. -/
theorem batchesCompose : Obligations.BatchesCompose := by
  unfold Obligations.BatchesCompose
  refine ⟨batch_zero step, fun s hs => ?_, fun m n s t ht => ?_, fun g n s r hs hr => ?_⟩
  · exact batch_one hs
  · exact batch_add n ht
  · exact batch_succ_refused hs hr

end
